-- ==== Sys2Proof/Word.lean ====
section
/-! DEFINITION. The byte: the block's only data word (00_scope R13). -/

namespace Sys2Proof

/-- A byte: 8 bits, unsigned; bit 7 is the most significant (00_scope R13, R14). -/
abbrev Byte := BitVec 8

end Sys2Proof
end

