-- ==== Sys2Proof/Machine/State.lean ====
section
/-! DEFINITION. The state of the block (10_state), as plain data: the RX registers, the output ports of the last step,
and the samples of the input ports that the host presents. -/

namespace Sys2Proof.Machine

/-- The contents of the 4-bit Framer state register `st` (R31): the eleven states of the transition table, the code
`READ_CMD` that no transition enters (R32), and the five unused codes (R33). -/
inductive FramerState where
  /-- 0: hunting for header1. -/
  | idle
  /-- 1: expects header2. -/
  | sawH1
  /-- 2: takes the control word. -/
  | afterH2
  /-- 3: takes the command word. -/
  | readCtrl
  /-- 4: never entered (R32). -/
  | readCmd
  /-- 5: takes the length-high byte. -/
  | readLenHi
  /-- 6: takes the length-low byte. -/
  | readLenLo
  /-- 7: takes a payload byte. -/
  | readPayload
  /-- 8: takes the checksum byte. -/
  | readCrc
  /-- 9: expects tail1. -/
  | sawT1
  /-- 10: expects tail2. -/
  | expectT2
  /-- 11: unused (R33). -/
  | unused11
  /-- 12: unused (R33). -/
  | unused12
  /-- 13: unused (R33). -/
  | unused13
  /-- 14: unused (R33). -/
  | unused14
  /-- 15: unused (R33). -/
  | unused15
  deriving DecidableEq, Repr

/-- The value of `KeepAwayState` (R51). -/
inductive KeepAway where
  | none
  | closeTo
  | farAway
  deriving DecidableEq, Repr

/-- The value of `MotionStatus` (R51). -/
inductive Motion where
  | none
  | still
  | active
  deriving DecidableEq, Repr

/-- A decoded event (R51): the 17 variants. A distance is a count `h` of half units, a speed a signed count. -/
inductive Event where
  | heartbeat
  | productModel (text : List Byte)
  | productId (text : List Byte)
  | hardwareModel (text : List Byte)
  | firmwareVersion (text : List Byte)
  | outputSwitch (on : Bool)
  | spatialStaticValue (v : Byte)
  | presenceDetectionDistance (h : Byte)
  | spatialMotionValue (v : Byte)
  | motionDistance (h : Byte)
  | motionSpeed (h : Int)
  | keepAwayState (s : KeepAway)
  | movementSigns (v : Byte)
  | sceneMode (index : Byte)
  | humanPresence (present : Bool)
  | motionStatus (s : Motion)
  | unrecognized (control command : Byte)
  deriving DecidableEq, Repr

/-- The diagnostic code of a step (R52). -/
inductive Diag where
  | none
  | framingDesync
  | checksumMismatch
  | payloadOutOfRange
  | unknownCommand
  | resetAck
  | initStatus
  | inertCommand
  deriving DecidableEq, Repr

/-- The RX outputs of one step: the events in emission order and one diagnostic code (R48). -/
structure Report where
  events : List Event
  diag : Diag
  deriving DecidableEq, Repr

/-- One sample of the input ports (R47). -/
structure PortSample where
  /-- `rst`: reset request for the RX agent. -/
  rst : Bool
  /-- `rx_valid`: a byte is present. -/
  rxValid : Bool
  /-- `rx_byte`. -/
  rxByte : Byte
  /-- `tx_req_valid`: a TX request is present. -/
  txReqValid : Bool
  /-- `tx_req_kind` (30_encoding R103). -/
  txReqKind : BitVec 4
  /-- `tx_req_arg`. -/
  txReqArg : Byte
  deriving DecidableEq, Repr

/-- A byte-addressed store as (address, byte) pairs, addresses strictly rising and no byte equal to what an unlisted
address reads as (log 5). -/
abbrev Memory := List Host.Cell

/-- Why the machine stops. The spec has no fault (40_framer R159); this one stands only in states that no run from reset
reaches. -/
inductive Fault where
  /-- Raised by the RX step on an access to a buffer index above 31, which does not exist (20_memory R70): a payload byte
  with `cnt` above 31, or a completion with `len` above 32. Safe: the model stops where the block has no such byte. -/
  | noSuchBufferByte
  deriving DecidableEq, Repr

/-- Why an instruction has no meaning. -/
inductive Refusal where
  /-- Raised by an arm of `exec` whose instruction has no meaning yet; no arm is left that raises it. Safe. -/
  | notModelled (mnemonic : String)
  deriving DecidableEq, Repr

/-- The state of the block. -/
structure State where
  /-- The Framer state register (R31). -/
  st : FramerState
  /-- The control word (R34). -/
  ctrl : Byte
  /-- The command word (R35). -/
  cmd : Byte
  /-- The length counter (R36). -/
  len : BitVec 16
  /-- The remaining-byte counter (R37). -/
  rem : BitVec 16
  /-- The fill counter of the payload buffer (R38). -/
  cnt : BitVec 6
  /-- The payload buffer `buf[0..31]` (R39). -/
  buf : Memory
  /-- The received checksum byte (R40). -/
  crc : Byte
  /-- Output port `ev`: the events of the last step (R48). -/
  ev : List Event
  /-- Output port `diag`: the diagnostic code of the last step (R48). -/
  diag : Diag
  /-- Output port `tx_valid` (R49). -/
  txValid : Bool
  /-- Output port `tx_frame`: the ten bytes of the frame when `tx_valid = 1`, no bytes otherwise (R49, log 3). -/
  txFrame : List Byte
  /-- The model's own field: the samples of the input ports for the steps to come, oldest first (R47, log 2). -/
  inputs : List PortSample
  deriving DecidableEq, Repr

/-- What a step or a meaning answers. -/
abbrev StepResult := Host.Outcome State Fault Refusal

/-- The machine right after reset (R53): the RX registers zero, `st` IDLE, no event and no diagnostic; no frame on the TX
ports (log 3), and nothing presented by the host (log 2). -/
def State.reset : State where
  st := .idle
  ctrl := 0x00#8
  cmd := 0x00#8
  len := 0#16
  rem := 0#16
  cnt := 0#6
  buf := []
  crc := 0x00#8
  ev := []
  diag := .none
  txValid := false
  txFrame := []
  inputs := []

end Sys2Proof.Machine
end

