-- ==== Sys2Proof/Machine/Operands.lean ====
section
/-! DEFINITION. The operand forms of 30_encoding R98, the lookup tables of 42_dispatcher R202 and the shared handlers of
42_dispatcher R201 to R204, as functions from a payload to a report. -/

namespace Sys2Proof.Machine

/-! ### Results (42_dispatcher R262) -/

/-- No event, one diagnostic code. -/
def noEvent (d : Diag) : Report := ⟨[], d⟩

/-- One event, no diagnostic. -/
def oneEvent (e : Event) : Report := ⟨[e], .none⟩

/-- The result of every bounds check that fails (42_dispatcher R201, R260). -/
def outOfRange : Report := noEvent .payloadOutOfRange

/-- The result of a key without a row of its own (42_dispatcher R203). -/
def unknownKey (ctrl cmd : Byte) : Report := ⟨[.unrecognized ctrl cmd], .unknownCommand⟩

/-! ### Reading the payload (42_dispatcher R201) -/

/-- `Need(k + 1)`, then `P(k)`: a handler that needs a byte the frame does not have reads nothing. -/
def withByte (payload : List Byte) (k : Nat) (handle : Byte → Report) : Report :=
  match payload[k]? with
  | none => outOfRange
  | some p => handle p

/-! ### Operand forms (30_encoding R98) -/

/-- Boolean: `p ≠ 0`. -/
def asBool (p : Byte) : Bool := p != 0x00#8

/-- Half units: `h = p`. -/
def asHalfUnits (p : Byte) : Byte := p

/-- Signed offset half units: `h = p - 10`, in -10..245. -/
def asSpeed (p : Byte) : Int := (p.toNat : Int) - 10

/-- `HP_TABLE` (42_dispatcher R202). -/
def presenceTable : List Bool := [false, true]

/-- `MS_TABLE` (42_dispatcher R202). -/
def motionTable : List Motion := [.none, .still, .active]

/-- `KA_TABLE` (42_dispatcher R202). -/
def keepAwayTable : List KeepAway := [.none, .closeTo, .farAway]

/-- Table index: accepted only below the table's size (42_dispatcher R260). -/
def lookup {α : Type} (table : List α) (mk : α → Event) (p : Byte) : Report :=
  match table[p.toNat]? with
  | none => outOfRange
  | some v => oneEvent (mk v)

/-- One-based index: accepted only in `1..count` (42_dispatcher R215). -/
def sceneIndex (count : Byte) (p : Byte) : Report :=
  if 1 ≤ p.toNat ∧ p.toNat ≤ count.toNat then oneEvent (.sceneMode (p - 1#8)) else outOfRange

/-- Text (42_dispatcher R204): the whole payload, accepted only when shorter than the bound. -/
def textReport (bound : Nat) (mk : List Byte → Event) (payload : List Byte) : Report :=
  if payload.length ≥ bound then outOfRange else oneEvent (mk payload)

/-- The five packed fields, in the listed order (42_dispatcher R224). -/
def packedReport (payload : List Byte) : Report :=
  withByte payload 4 fun p4 =>
  withByte payload 0 fun p0 =>
  withByte payload 1 fun p1 =>
  withByte payload 2 fun p2 =>
  withByte payload 3 fun p3 =>
    ⟨[.spatialStaticValue p0, .presenceDetectionDistance (asHalfUnits p1), .spatialMotionValue p2,
      .motionDistance (asHalfUnits p3), .motionSpeed (asSpeed p4)], .none⟩

/-! ### The scene code of an outbound request (45_encoder R310) -/

/-- The code at an index of SCENE_CODES; none outside the list, and none for the reserved code 0x00. -/
def sceneCode (codes : List Byte) (index : Byte) : Option Byte :=
  match codes[index.toNat]? with
  | none => none
  | some code => if code = 0x00#8 then none else some code

end Sys2Proof.Machine
end

