-- ==== Sys2Proof/Machine/Checksum.lean ====
section
/-! DEFINITION. Checksum-8 (41_checksum_validator): one combinational function, used by the validator on every
completed inbound frame and by the generator on every outbound frame. -/

namespace Sys2Proof.Machine

/-- The exact integer sum of a byte sequence (00_scope R15, `Σ s`). -/
def byteSum : List Byte → Nat
  | [] => 0
  | b :: bs => b.toNat + byteSum bs

/-- `sum mod 256` as a byte. -/
def sum8 (bs : List Byte) : Byte := BitVec.ofNat 8 (byteSum bs)

/-- R170, `Checksum(F)`: the sum of all bytes of the frame but the last three, modulo 256. -/
def checksum (frame : List Byte) : Byte := sum8 (frame.take (frame.length - 3))

/-- R173, `Validate(F)`: the byte before the two tail bytes is the checksum of the frame. -/
def validFrame (frame : List Byte) : Bool :=
  frame[frame.length - 3]? == some (checksum frame)

/-- R174, `Generate(T)`: the checksum of an outbound frame, from the seven bytes written before it. -/
def generate (template : List Byte) : Byte := sum8 template

end Sys2Proof.Machine
end

