-- ==== Sys2Proof/Config.lean ====
section
/-! DEFINITION. What is fixed when the block is built (00_scope R8 to R12): the two fixed bounds, and the three OPEN
parameters, which have no value in this model: nothing can be proved of them but the stated constraint (log 1). -/

namespace Sys2Proof

/-- MAX_PAYLOAD, the largest payload length the Framer assembles (00_scope R8). -/
def Config.maxPayload : Nat := 32

/-- LEN_HI_MAX, the largest length-high byte the Framer accepts (00_scope R9). -/
def Config.lenHiMax : Nat := 4

/-- How far TEXT_BOUND lies above its least admissible value 4 (00_scope R10). OPEN: no value. -/
opaque Config.textBoundOver : Nat

/-- TEXT_BOUND (00_scope R10): OPEN, but every admissible value is at least 4. A text of length `L` is delivered only
when `L < TEXT_BOUND`. -/
def Config.textBound : Nat := Config.textBoundOver + 4

/-- SCENE_COUNT (00_scope R11): OPEN, in 0..255. -/
opaque Config.sceneCount : Byte

/-- SCENE_CODES (00_scope R12): OPEN, a finite list of bytes. -/
opaque Config.sceneCodes : List Byte

end Sys2Proof
end

