-- ==== Sys2Proof/Syntax.lean ====
section
/-! DEFINITION. The instruction set: the inbound frames, one constructor per key of 30_encoding R96, and the outbound
requests, one constructor per kind of R103 (the reserved kinds 10 to 15 are no instruction: 45_encoder R311). An
inbound frame's operands are its payload bytes and, for the rows that take any command word, the words themselves;
a request's operand is `tx_req_arg`. -/

namespace Sys2Proof

/-- One instruction: an inbound frame that the Framer completed and the FrameValidator accepted, or one outbound
request. One constructor per row of opcode_table.json. -/
inductive Instr where
  /-- R205, key 01/01: heartbeat report. -/
  | rx0101Heartbeat (payload : List Byte)
  /-- R206, key 01/02: reset acknowledgement. -/
  | rx0102ResetAck (payload : List Byte)
  /-- R207, key 01/other: a command word with no row of its own under control word 01. -/
  | rx01XXUnknown (cmd : Byte) (payload : List Byte)
  /-- R208, key 02/A1: ProductModel text. -/
  | rx02A1ProductModel (payload : List Byte)
  /-- R209, key 02/A2: ProductId text. -/
  | rx02A2ProductId (payload : List Byte)
  /-- R210, key 02/A3: HardwareModel text. -/
  | rx02A3HardwareModel (payload : List Byte)
  /-- R211, key 02/A4: FirmwareVersion text. -/
  | rx02A4FirmwareVersion (payload : List Byte)
  /-- R212, key 02/other: a command word with no row of its own under control word 02. -/
  | rx02XXUnknown (cmd : Byte) (payload : List Byte)
  /-- R213, key 05/01: radar initialisation status. -/
  | rx0501InitStatus (payload : List Byte)
  /-- R214, key 05/81: radar initialisation status. -/
  | rx0581InitStatus (payload : List Byte)
  /-- R215, key 05/87: scene-mode report. -/
  | rx0587SceneMode (payload : List Byte)
  /-- R216, key 05/07: known word without an event. -/
  | rx0507Inert (payload : List Byte)
  /-- R217, key 05/08: known word without an event. -/
  | rx0508Inert (payload : List Byte)
  /-- R218, key 05/09: known word without an event. -/
  | rx0509Inert (payload : List Byte)
  /-- R219, key 05/88: known word without an event. -/
  | rx0588Inert (payload : List Byte)
  /-- R220, key 05/89: known word without an event. -/
  | rx0589Inert (payload : List Byte)
  /-- R221, key 05/other: a command word with no row of its own under control word 05. -/
  | rx05XXUnknown (cmd : Byte) (payload : List Byte)
  /-- R222, key 08/00: output-switch report. -/
  | rx0800OutputSwitch (payload : List Byte)
  /-- R223, key 08/80: output-switch report. -/
  | rx0880OutputSwitch (payload : List Byte)
  /-- R224, key 08/01: packed five-field report. -/
  | rx0801PackedFields (payload : List Byte)
  /-- R225, key 08/81: static value. -/
  | rx0881StaticValue (payload : List Byte)
  /-- R226, key 08/82: detection distance. -/
  | rx0882DetectionDistance (payload : List Byte)
  /-- R227, key 08/83: motion value. -/
  | rx0883MotionValue (payload : List Byte)
  /-- R228, key 08/84: motion distance. -/
  | rx0884MotionDistance (payload : List Byte)
  /-- R229, key 08/85: motion speed. -/
  | rx0885MotionSpeed (payload : List Byte)
  /-- R230, key 08/06: keep-away state. -/
  | rx0806KeepAway (payload : List Byte)
  /-- R231, key 08/86: keep-away state. -/
  | rx0886KeepAway (payload : List Byte)
  /-- R232, key 08/07: movement signs. -/
  | rx0807MovementSigns (payload : List Byte)
  /-- R233, key 08/87: movement signs. -/
  | rx0887MovementSigns (payload : List Byte)
  /-- R234, key 08/08: known word without an event. -/
  | rx0808Inert (payload : List Byte)
  /-- R235, key 08/09: known word without an event. -/
  | rx0809Inert (payload : List Byte)
  /-- R236, key 08/0A: known word without an event. -/
  | rx080AInert (payload : List Byte)
  /-- R237, key 08/0B: known word without an event. -/
  | rx080BInert (payload : List Byte)
  /-- R238, key 08/0C: known word without an event. -/
  | rx080CInert (payload : List Byte)
  /-- R239, key 08/0D: known word without an event. -/
  | rx080DInert (payload : List Byte)
  /-- R240, key 08/0E: known word without an event. -/
  | rx080EInert (payload : List Byte)
  /-- R241, key 08/88: known word without an event. -/
  | rx0888Inert (payload : List Byte)
  /-- R242, key 08/89: known word without an event. -/
  | rx0889Inert (payload : List Byte)
  /-- R243, key 08/8A: known word without an event. -/
  | rx088AInert (payload : List Byte)
  /-- R244, key 08/8B: known word without an event. -/
  | rx088BInert (payload : List Byte)
  /-- R245, key 08/8C: known word without an event. -/
  | rx088CInert (payload : List Byte)
  /-- R246, key 08/8D: known word without an event. -/
  | rx088DInert (payload : List Byte)
  /-- R247, key 08/8E: known word without an event. -/
  | rx088EInert (payload : List Byte)
  /-- R248, key 08/other: a command word with no row of its own under control word 08. -/
  | rx08XXUnknown (cmd : Byte) (payload : List Byte)
  /-- R249, key 80/01: human presence. -/
  | rx8001HumanPresence (payload : List Byte)
  /-- R250, key 80/81: human presence. -/
  | rx8081HumanPresence (payload : List Byte)
  /-- R251, key 80/02: motion status. -/
  | rx8002MotionStatus (payload : List Byte)
  /-- R252, key 80/82: motion status. -/
  | rx8082MotionStatus (payload : List Byte)
  /-- R253, key 80/03: movement signs. -/
  | rx8003MovementSigns (payload : List Byte)
  /-- R254, key 80/83: movement signs. -/
  | rx8083MovementSigns (payload : List Byte)
  /-- R255, key 80/0B: keep-away state. -/
  | rx800BKeepAway (payload : List Byte)
  /-- R256, key 80/8B: keep-away state. -/
  | rx808BKeepAway (payload : List Byte)
  /-- R257, key 80/0A: known word without an event. -/
  | rx800AInert (payload : List Byte)
  /-- R258, key 80/8A: known word without an event. -/
  | rx808AInert (payload : List Byte)
  /-- R259, key 80/other: a command word with no row of its own under control word 80. -/
  | rx80XXUnknown (cmd : Byte) (payload : List Byte)
  /-- R203: any control word other than 01, 02, 05, 08 and 80, any command word. -/
  | rxXXXXUnknown (ctrl cmd : Byte) (payload : List Byte)
  /-- R301, request kind 0. -/
  | txHeartbeat (arg : Byte)
  /-- R302, request kind 1. -/
  | txQueryOutputSwitch (arg : Byte)
  /-- R303, request kind 2. -/
  | txQueryProductMode (arg : Byte)
  /-- R304, request kind 3. -/
  | txQueryProductId (arg : Byte)
  /-- R305, request kind 4. -/
  | txQueryHardwareModel (arg : Byte)
  /-- R306, request kind 5. -/
  | txQueryFirmwareVersion (arg : Byte)
  /-- R307, request kind 6. -/
  | txQueryHumanStatus (arg : Byte)
  /-- R308, request kind 7. -/
  | txQueryKeepAway (arg : Byte)
  /-- R309, request kind 8. -/
  | txSetOutputSwitch (arg : Byte)
  /-- R310, request kind 9. -/
  | txSetSceneMode (arg : Byte)
  deriving DecidableEq, Repr

/-- An instruction taken apart: the key and the payload of an inbound frame (30_encoding R94), or the request kind and
argument of an outbound request (R103). -/
inductive Parts where
  /-- An inbound frame: control word, command word, payload. -/
  | frame (ctrl cmd : Byte) (payload : List Byte)
  /-- An outbound request: `tx_req_kind`, `tx_req_arg`. -/
  | request (kind : BitVec 4) (arg : Byte)
  deriving DecidableEq, Repr

end Sys2Proof
end

