-- ==== Sys2Proof/WellFormed.lean ====
section
/-! DEFINITION. Which terms of `Instr` stand for a frame or a request that exists: the payload fits the buffer
(00_scope R8), and a row for "any other" word holds no word that has a row of its own (30_encoding R94, R96). -/

namespace Sys2Proof

/-- The control words the source names (30_encoding R95). -/
def knownControls : List Byte :=
  [0x01#8, 0x02#8, 0x05#8, 0x08#8, 0x80#8]

/-- The command words with a row of their own under the system control word 01 (30_encoding R96). -/
def knownCommands01 : List Byte :=
  [0x01#8, 0x02#8]

/-- The command words with a row of their own under the product-information control word 02 (30_encoding R96). -/
def knownCommands02 : List Byte :=
  [0xA1#8, 0xA2#8, 0xA3#8, 0xA4#8]

/-- The command words with a row of their own under the work-status control word 05 (30_encoding R96). -/
def knownCommands05 : List Byte :=
  [0x01#8, 0x81#8, 0x87#8, 0x07#8, 0x08#8, 0x09#8, 0x88#8, 0x89#8]

/-- The command words with a row of their own under the parameters control word 08 (30_encoding R96). -/
def knownCommands08 : List Byte :=
  [0x00#8, 0x80#8, 0x01#8, 0x81#8, 0x82#8, 0x83#8, 0x84#8, 0x85#8, 0x06#8, 0x86#8, 0x07#8, 0x87#8, 0x08#8,
   0x09#8, 0x0A#8, 0x0B#8, 0x0C#8, 0x0D#8, 0x0E#8, 0x88#8, 0x89#8, 0x8A#8, 0x8B#8, 0x8C#8, 0x8D#8, 0x8E#8]

/-- The command words with a row of their own under the human-presence control word 80 (30_encoding R96). -/
def knownCommands80 : List Byte :=
  [0x01#8, 0x81#8, 0x02#8, 0x82#8, 0x03#8, 0x83#8, 0x0B#8, 0x8B#8, 0x0A#8, 0x8A#8]

/-- The payload fits the payload buffer (00_scope R8). -/
def payloadFits (payload : List Byte) : Bool :=
  decide (payload.length ≤ Config.maxPayload)

/-- The instruction is one that a frame or a request can encode. A request's argument may be any byte
(93_implementation_defined I15). -/
def Instr.wellFormed : Instr → Bool
  | .rx0101Heartbeat payload => payloadFits payload
  | .rx0102ResetAck payload => payloadFits payload
  | .rx01XXUnknown cmd payload => !knownCommands01.contains cmd && payloadFits payload
  | .rx02A1ProductModel payload => payloadFits payload
  | .rx02A2ProductId payload => payloadFits payload
  | .rx02A3HardwareModel payload => payloadFits payload
  | .rx02A4FirmwareVersion payload => payloadFits payload
  | .rx02XXUnknown cmd payload => !knownCommands02.contains cmd && payloadFits payload
  | .rx0501InitStatus payload => payloadFits payload
  | .rx0581InitStatus payload => payloadFits payload
  | .rx0587SceneMode payload => payloadFits payload
  | .rx0507Inert payload => payloadFits payload
  | .rx0508Inert payload => payloadFits payload
  | .rx0509Inert payload => payloadFits payload
  | .rx0588Inert payload => payloadFits payload
  | .rx0589Inert payload => payloadFits payload
  | .rx05XXUnknown cmd payload => !knownCommands05.contains cmd && payloadFits payload
  | .rx0800OutputSwitch payload => payloadFits payload
  | .rx0880OutputSwitch payload => payloadFits payload
  | .rx0801PackedFields payload => payloadFits payload
  | .rx0881StaticValue payload => payloadFits payload
  | .rx0882DetectionDistance payload => payloadFits payload
  | .rx0883MotionValue payload => payloadFits payload
  | .rx0884MotionDistance payload => payloadFits payload
  | .rx0885MotionSpeed payload => payloadFits payload
  | .rx0806KeepAway payload => payloadFits payload
  | .rx0886KeepAway payload => payloadFits payload
  | .rx0807MovementSigns payload => payloadFits payload
  | .rx0887MovementSigns payload => payloadFits payload
  | .rx0808Inert payload => payloadFits payload
  | .rx0809Inert payload => payloadFits payload
  | .rx080AInert payload => payloadFits payload
  | .rx080BInert payload => payloadFits payload
  | .rx080CInert payload => payloadFits payload
  | .rx080DInert payload => payloadFits payload
  | .rx080EInert payload => payloadFits payload
  | .rx0888Inert payload => payloadFits payload
  | .rx0889Inert payload => payloadFits payload
  | .rx088AInert payload => payloadFits payload
  | .rx088BInert payload => payloadFits payload
  | .rx088CInert payload => payloadFits payload
  | .rx088DInert payload => payloadFits payload
  | .rx088EInert payload => payloadFits payload
  | .rx08XXUnknown cmd payload => !knownCommands08.contains cmd && payloadFits payload
  | .rx8001HumanPresence payload => payloadFits payload
  | .rx8081HumanPresence payload => payloadFits payload
  | .rx8002MotionStatus payload => payloadFits payload
  | .rx8082MotionStatus payload => payloadFits payload
  | .rx8003MovementSigns payload => payloadFits payload
  | .rx8083MovementSigns payload => payloadFits payload
  | .rx800BKeepAway payload => payloadFits payload
  | .rx808BKeepAway payload => payloadFits payload
  | .rx800AInert payload => payloadFits payload
  | .rx808AInert payload => payloadFits payload
  | .rx80XXUnknown cmd payload => !knownCommands80.contains cmd && payloadFits payload
  | .rxXXXXUnknown ctrl _ payload => !knownControls.contains ctrl && payloadFits payload
  | .txHeartbeat _ => true
  | .txQueryOutputSwitch _ => true
  | .txQueryProductMode _ => true
  | .txQueryProductId _ => true
  | .txQueryHardwareModel _ => true
  | .txQueryFirmwareVersion _ => true
  | .txQueryHumanStatus _ => true
  | .txQueryKeepAway _ => true
  | .txSetOutputSwitch _ => true
  | .txSetSceneMode _ => true

end Sys2Proof
end

