-- ==== Sys2Proof/Decode.lean ====
section
/-! DEFINITION. The decoder, total on any bytes and on any request, and after it the encoder, both from the tables of
30_encoding. `decodeTableWord` reads a word as opcode_table.json numbers its bits. -/

namespace Sys2Proof

/-- Frame byte 0 (30_encoding R93). -/
def header1 : Byte := 0x53#8

/-- Frame byte 1 (30_encoding R93). -/
def header2 : Byte := 0x59#8

/-- The last byte but one of a frame (30_encoding R93). -/
def tail1 : Byte := 0x54#8

/-- The last byte of a frame (30_encoding R93). -/
def tail2 : Byte := 0x43#8

/-- Why the decoder refuses: the structural checks of 60_exceptions R338 in wire order, an input that ends inside a
frame, bytes after the frame where one frame was asked for, and a reserved request kind (45_encoder R311). -/
inductive Rejection where
  /-- The input ends before the frame does. -/
  | truncated
  /-- Byte 0 is not 0x53. -/
  | badHeader1
  /-- Byte 1 is not 0x59. -/
  | badHeader2
  /-- The length-high byte is above 4 (R92). -/
  | badLengthHigh
  /-- The length is above 32 (R92). -/
  | tooLong
  /-- The first tail byte is not 0x54. -/
  | badTail1
  /-- The second tail byte is not 0x43. -/
  | badTail2
  /-- The checksum byte is not the checksum of the frame (41_checksum_validator R173). -/
  | badChecksum
  /-- Bytes follow the frame. -/
  | trailingBytes
  /-- Request kinds 10 to 15 (45_encoder R311). -/
  | reservedKind (kind : BitVec 4)
  deriving DecidableEq, Repr

/-! ### Keys (30_encoding R94, R96) -/

/-- The rows of control word 01: an exact command word first, then "other" (42_dispatcher R200). -/
def decodeSystem (cmd : Byte) (payload : List Byte) : Instr :=
  if cmd = 0x01#8 then .rx0101Heartbeat payload
  else if cmd = 0x02#8 then .rx0102ResetAck payload
  else .rx01XXUnknown cmd payload

/-- The rows of control word 02: an exact command word first, then "other" (42_dispatcher R200). -/
def decodeProduct (cmd : Byte) (payload : List Byte) : Instr :=
  if cmd = 0xA1#8 then .rx02A1ProductModel payload
  else if cmd = 0xA2#8 then .rx02A2ProductId payload
  else if cmd = 0xA3#8 then .rx02A3HardwareModel payload
  else if cmd = 0xA4#8 then .rx02A4FirmwareVersion payload
  else .rx02XXUnknown cmd payload

/-- The rows of control word 05: an exact command word first, then "other" (42_dispatcher R200). -/
def decodeWorkStatus (cmd : Byte) (payload : List Byte) : Instr :=
  if cmd = 0x01#8 then .rx0501InitStatus payload
  else if cmd = 0x81#8 then .rx0581InitStatus payload
  else if cmd = 0x87#8 then .rx0587SceneMode payload
  else if cmd = 0x07#8 then .rx0507Inert payload
  else if cmd = 0x08#8 then .rx0508Inert payload
  else if cmd = 0x09#8 then .rx0509Inert payload
  else if cmd = 0x88#8 then .rx0588Inert payload
  else if cmd = 0x89#8 then .rx0589Inert payload
  else .rx05XXUnknown cmd payload

/-- The rows of control word 08: an exact command word first, then "other" (42_dispatcher R200). -/
def decodeParameters (cmd : Byte) (payload : List Byte) : Instr :=
  if cmd = 0x00#8 then .rx0800OutputSwitch payload
  else if cmd = 0x80#8 then .rx0880OutputSwitch payload
  else if cmd = 0x01#8 then .rx0801PackedFields payload
  else if cmd = 0x81#8 then .rx0881StaticValue payload
  else if cmd = 0x82#8 then .rx0882DetectionDistance payload
  else if cmd = 0x83#8 then .rx0883MotionValue payload
  else if cmd = 0x84#8 then .rx0884MotionDistance payload
  else if cmd = 0x85#8 then .rx0885MotionSpeed payload
  else if cmd = 0x06#8 then .rx0806KeepAway payload
  else if cmd = 0x86#8 then .rx0886KeepAway payload
  else if cmd = 0x07#8 then .rx0807MovementSigns payload
  else if cmd = 0x87#8 then .rx0887MovementSigns payload
  else if cmd = 0x08#8 then .rx0808Inert payload
  else if cmd = 0x09#8 then .rx0809Inert payload
  else if cmd = 0x0A#8 then .rx080AInert payload
  else if cmd = 0x0B#8 then .rx080BInert payload
  else if cmd = 0x0C#8 then .rx080CInert payload
  else if cmd = 0x0D#8 then .rx080DInert payload
  else if cmd = 0x0E#8 then .rx080EInert payload
  else if cmd = 0x88#8 then .rx0888Inert payload
  else if cmd = 0x89#8 then .rx0889Inert payload
  else if cmd = 0x8A#8 then .rx088AInert payload
  else if cmd = 0x8B#8 then .rx088BInert payload
  else if cmd = 0x8C#8 then .rx088CInert payload
  else if cmd = 0x8D#8 then .rx088DInert payload
  else if cmd = 0x8E#8 then .rx088EInert payload
  else .rx08XXUnknown cmd payload

/-- The rows of control word 80: an exact command word first, then "other" (42_dispatcher R200). -/
def decodePresence (cmd : Byte) (payload : List Byte) : Instr :=
  if cmd = 0x01#8 then .rx8001HumanPresence payload
  else if cmd = 0x81#8 then .rx8081HumanPresence payload
  else if cmd = 0x02#8 then .rx8002MotionStatus payload
  else if cmd = 0x82#8 then .rx8082MotionStatus payload
  else if cmd = 0x03#8 then .rx8003MovementSigns payload
  else if cmd = 0x83#8 then .rx8083MovementSigns payload
  else if cmd = 0x0B#8 then .rx800BKeepAway payload
  else if cmd = 0x8B#8 then .rx808BKeepAway payload
  else if cmd = 0x0A#8 then .rx800AInert payload
  else if cmd = 0x8A#8 then .rx808AInert payload
  else .rx80XXUnknown cmd payload

/-- The instruction of a key and a payload (30_encoding R94): the control word first, then the command word. Total over
all 65,536 keys. -/
def decodeKey (ctrl cmd : Byte) (payload : List Byte) : Instr :=
  if ctrl = 0x01#8 then decodeSystem cmd payload
  else if ctrl = 0x02#8 then decodeProduct cmd payload
  else if ctrl = 0x05#8 then decodeWorkStatus cmd payload
  else if ctrl = 0x08#8 then decodeParameters cmd payload
  else if ctrl = 0x80#8 then decodePresence cmd payload
  else .rxXXXXUnknown ctrl cmd payload

/-! ### Frames (30_encoding R90) -/

/-- The bytes of a frame, from its fields (30_encoding R90; 40_framer R153). -/
def frameBytes (ctrl cmd lenHi lenLo : Byte) (payload : List Byte) (crc : Byte) : List Byte :=
  [header1, header2, ctrl, cmd, lenHi, lenLo] ++ payload ++ [crc, tail1, tail2]

/-- The next byte of the input. -/
def takeByte : List Byte → Except Rejection (Byte × List Byte)
  | [] => .error .truncated
  | b :: bs => .ok (b, bs)

/-- The next `n` bytes of the input. -/
def takeBytes (n : Nat) (bs : List Byte) : Except Rejection (List Byte × List Byte) :=
  if bs.length < n then .error .truncated else .ok (bs.take n, bs.drop n)

/-- Refuse, by name, unless the check holds. -/
def require (check : Bool) (why : Rejection) : Except Rejection Unit :=
  if check then .ok () else .error why

/-- The frame at the head of the input, and the bytes after it. The checks stand in the order of 60_exceptions R338. -/
def decodeFrame (bs : List Byte) : Except Rejection (Instr × List Byte) := do
  let (h1, bs) ← takeByte bs
  require (h1 == header1) .badHeader1
  let (h2, bs) ← takeByte bs
  require (h2 == header2) .badHeader2
  let (ctrl, bs) ← takeByte bs
  let (cmd, bs) ← takeByte bs
  let (lenHi, bs) ← takeByte bs
  require (decide (lenHi.toNat ≤ Config.lenHiMax)) .badLengthHigh
  let (lenLo, bs) ← takeByte bs
  let len := lenHi.toNat * 256 + lenLo.toNat
  require (decide (len ≤ Config.maxPayload)) .tooLong
  let (payload, bs) ← takeBytes len bs
  let (crc, bs) ← takeByte bs
  let (t1, bs) ← takeByte bs
  require (t1 == tail1) .badTail1
  let (t2, bs) ← takeByte bs
  require (t2 == tail2) .badTail2
  require (Machine.validFrame (frameBytes ctrl cmd lenHi lenLo payload crc)) .badChecksum
  return (decodeKey ctrl cmd payload, bs)

/-! ### Requests (30_encoding R103) -/

/-- The instruction of a request kind and argument; kinds 10 to 15 are reserved (45_encoder R311). -/
def decodeRequest (kind : BitVec 4) (arg : Byte) : Except Rejection Instr :=
  if kind = 0#4 then .ok (.txHeartbeat arg)
  else if kind = 1#4 then .ok (.txQueryOutputSwitch arg)
  else if kind = 2#4 then .ok (.txQueryProductMode arg)
  else if kind = 3#4 then .ok (.txQueryProductId arg)
  else if kind = 4#4 then .ok (.txQueryHardwareModel arg)
  else if kind = 5#4 then .ok (.txQueryFirmwareVersion arg)
  else if kind = 6#4 then .ok (.txQueryHumanStatus arg)
  else if kind = 7#4 then .ok (.txQueryKeepAway arg)
  else if kind = 8#4 then .ok (.txSetOutputSwitch arg)
  else if kind = 9#4 then .ok (.txSetSceneMode arg)
  else .error (.reservedKind kind)

/-! ### The encoder -/

/-- The key and payload, or kind and argument, of an instruction: the columns of 30_encoding R96 and R103. -/
def Instr.parts : Instr → Parts
  | .rx0101Heartbeat payload => .frame 0x01#8 0x01#8 payload
  | .rx0102ResetAck payload => .frame 0x01#8 0x02#8 payload
  | .rx01XXUnknown cmd payload => .frame 0x01#8 cmd payload
  | .rx02A1ProductModel payload => .frame 0x02#8 0xA1#8 payload
  | .rx02A2ProductId payload => .frame 0x02#8 0xA2#8 payload
  | .rx02A3HardwareModel payload => .frame 0x02#8 0xA3#8 payload
  | .rx02A4FirmwareVersion payload => .frame 0x02#8 0xA4#8 payload
  | .rx02XXUnknown cmd payload => .frame 0x02#8 cmd payload
  | .rx0501InitStatus payload => .frame 0x05#8 0x01#8 payload
  | .rx0581InitStatus payload => .frame 0x05#8 0x81#8 payload
  | .rx0587SceneMode payload => .frame 0x05#8 0x87#8 payload
  | .rx0507Inert payload => .frame 0x05#8 0x07#8 payload
  | .rx0508Inert payload => .frame 0x05#8 0x08#8 payload
  | .rx0509Inert payload => .frame 0x05#8 0x09#8 payload
  | .rx0588Inert payload => .frame 0x05#8 0x88#8 payload
  | .rx0589Inert payload => .frame 0x05#8 0x89#8 payload
  | .rx05XXUnknown cmd payload => .frame 0x05#8 cmd payload
  | .rx0800OutputSwitch payload => .frame 0x08#8 0x00#8 payload
  | .rx0880OutputSwitch payload => .frame 0x08#8 0x80#8 payload
  | .rx0801PackedFields payload => .frame 0x08#8 0x01#8 payload
  | .rx0881StaticValue payload => .frame 0x08#8 0x81#8 payload
  | .rx0882DetectionDistance payload => .frame 0x08#8 0x82#8 payload
  | .rx0883MotionValue payload => .frame 0x08#8 0x83#8 payload
  | .rx0884MotionDistance payload => .frame 0x08#8 0x84#8 payload
  | .rx0885MotionSpeed payload => .frame 0x08#8 0x85#8 payload
  | .rx0806KeepAway payload => .frame 0x08#8 0x06#8 payload
  | .rx0886KeepAway payload => .frame 0x08#8 0x86#8 payload
  | .rx0807MovementSigns payload => .frame 0x08#8 0x07#8 payload
  | .rx0887MovementSigns payload => .frame 0x08#8 0x87#8 payload
  | .rx0808Inert payload => .frame 0x08#8 0x08#8 payload
  | .rx0809Inert payload => .frame 0x08#8 0x09#8 payload
  | .rx080AInert payload => .frame 0x08#8 0x0A#8 payload
  | .rx080BInert payload => .frame 0x08#8 0x0B#8 payload
  | .rx080CInert payload => .frame 0x08#8 0x0C#8 payload
  | .rx080DInert payload => .frame 0x08#8 0x0D#8 payload
  | .rx080EInert payload => .frame 0x08#8 0x0E#8 payload
  | .rx0888Inert payload => .frame 0x08#8 0x88#8 payload
  | .rx0889Inert payload => .frame 0x08#8 0x89#8 payload
  | .rx088AInert payload => .frame 0x08#8 0x8A#8 payload
  | .rx088BInert payload => .frame 0x08#8 0x8B#8 payload
  | .rx088CInert payload => .frame 0x08#8 0x8C#8 payload
  | .rx088DInert payload => .frame 0x08#8 0x8D#8 payload
  | .rx088EInert payload => .frame 0x08#8 0x8E#8 payload
  | .rx08XXUnknown cmd payload => .frame 0x08#8 cmd payload
  | .rx8001HumanPresence payload => .frame 0x80#8 0x01#8 payload
  | .rx8081HumanPresence payload => .frame 0x80#8 0x81#8 payload
  | .rx8002MotionStatus payload => .frame 0x80#8 0x02#8 payload
  | .rx8082MotionStatus payload => .frame 0x80#8 0x82#8 payload
  | .rx8003MovementSigns payload => .frame 0x80#8 0x03#8 payload
  | .rx8083MovementSigns payload => .frame 0x80#8 0x83#8 payload
  | .rx800BKeepAway payload => .frame 0x80#8 0x0B#8 payload
  | .rx808BKeepAway payload => .frame 0x80#8 0x8B#8 payload
  | .rx800AInert payload => .frame 0x80#8 0x0A#8 payload
  | .rx808AInert payload => .frame 0x80#8 0x8A#8 payload
  | .rx80XXUnknown cmd payload => .frame 0x80#8 cmd payload
  | .rxXXXXUnknown ctrl cmd payload => .frame ctrl cmd payload
  | .txHeartbeat arg => .request 0#4 arg
  | .txQueryOutputSwitch arg => .request 1#4 arg
  | .txQueryProductMode arg => .request 2#4 arg
  | .txQueryProductId arg => .request 3#4 arg
  | .txQueryHardwareModel arg => .request 4#4 arg
  | .txQueryFirmwareVersion arg => .request 5#4 arg
  | .txQueryHumanStatus arg => .request 6#4 arg
  | .txQueryKeepAway arg => .request 7#4 arg
  | .txSetOutputSwitch arg => .request 8#4 arg
  | .txSetSceneMode arg => .request 9#4 arg

/-- The instruction is an inbound frame (the RX agent runs it); otherwise it is a request (the TX agent runs it). -/
def Instr.isInbound (i : Instr) : Bool :=
  match i.parts with
  | .frame _ _ _ => true
  | .request _ _ => false

/-- A frame with its length bytes and its checksum filled in (30_encoding R90, R92; 41_checksum_validator R170). -/
def encodeFrame (ctrl cmd : Byte) (payload : List Byte) : List Byte :=
  let lenHi := BitVec.ofNat 8 (payload.length / 256)
  let lenLo := BitVec.ofNat 8 payload.length
  frameBytes ctrl cmd lenHi lenLo payload
    (Machine.checksum (frameBytes ctrl cmd lenHi lenLo payload 0x00#8))

/-- The form in which an instruction reaches the block: the bytes of a frame on `rx_byte`, or a request on
`tx_req_kind` and `tx_req_arg` (10_state R47). -/
inductive Encoding where
  /-- The bytes of one frame, in wire order. -/
  | frame (bytes : List Byte)
  /-- One request. -/
  | request (kind : BitVec 4) (arg : Byte)
  deriving DecidableEq, Repr

/-- The encoding of an instruction. -/
def encode (i : Instr) : Encoding :=
  match i.parts with
  | .frame ctrl cmd payload => .frame (encodeFrame ctrl cmd payload)
  | .request kind arg => .request kind arg

/-- The instruction of an encoding: exactly one frame, or one request. -/
def decode : Encoding → Except Rejection Instr
  | .frame bytes =>
    match decodeFrame bytes with
    | .ok (i, []) => .ok i
    | .ok (_, _ :: _) => .error .trailingBytes
    | .error why => .error why
  | .request kind arg => decodeRequest kind arg

/-! ### Words as opcode_table.json numbers them (log 7) -/

/-- Byte `k` of a word whose first byte stands in bits 7..0. -/
def wordByte (w k : Nat) : Byte := BitVec.ofNat 8 (w / 256 ^ k)

/-- The request whose outbound frame has control word `ctrl`, command word `cmd` and payload byte `v`, by the templates of
45_encoder R301 to R310. The payload byte of a scene-mode frame does not name an index, so index 0 is taken. -/
def templateRequest (ctrl cmd v : Byte) : Option Parts :=
  if ctrl = 0x01#8 ∧ cmd = 0x01#8 then some (.request 0#4 0x00#8)
  else if ctrl = 0x08#8 ∧ cmd = 0x80#8 then some (.request 1#4 0x00#8)
  else if ctrl = 0x02#8 ∧ cmd = 0xA1#8 then some (.request 2#4 0x00#8)
  else if ctrl = 0x02#8 ∧ cmd = 0xA2#8 then some (.request 3#4 0x00#8)
  else if ctrl = 0x02#8 ∧ cmd = 0xA3#8 then some (.request 4#4 0x00#8)
  else if ctrl = 0x02#8 ∧ cmd = 0xA4#8 then some (.request 5#4 0x00#8)
  else if ctrl = 0x80#8 ∧ cmd = 0x81#8 then some (.request 6#4 0x00#8)
  else if ctrl = 0x80#8 ∧ cmd = 0x8B#8 then some (.request 7#4 0x00#8)
  else if ctrl = 0x08#8 ∧ cmd = 0x00#8 then some (.request 8#4 v)
  else if ctrl = 0x05#8 ∧ cmd = 0x07#8 then some (.request 9#4 0x00#8)
  else none

/-- What a table word of `nbits` bits stands for (log 7): at most 8 bits, a request kind with argument 0; 16 bits, a
`key16` (30_encoding R94) of a frame with no payload, but for 8 and 9, the kinds of the two outbound rows to which the
table gives bits above 7; 80 bits, an outbound frame (30_encoding R108), first byte in bits 7..0. -/
def tableWord (nbits w : Nat) : Option Parts :=
  if nbits = 0 then some (.frame (wordByte w 1) (wordByte w 0) [])
  else if nbits ≤ 8 then some (.request (BitVec.ofNat 4 w) 0x00#8)
  else if nbits = 16 then
    if w = 8 ∨ w = 9 then some (.request (BitVec.ofNat 4 w) 0x00#8)
    else some (.frame (wordByte w 1) (wordByte w 0) [])
  else if nbits = 80 then templateRequest (wordByte w 2) (wordByte w 3) (wordByte w 6)
  else none

/-- The instruction the decoder reads from a table word, every bit above the word being 0: for a key, from the whole
frame with an empty payload. -/
def decodeTableWord (nbits w : Nat) : Option Instr :=
  match tableWord nbits w with
  | none => none
  | some (.frame ctrl cmd payload) => (decode (.frame (encodeFrame ctrl cmd payload))).toOption
  | some (.request kind arg) => (decode (.request kind arg)).toOption

end Sys2Proof
end

