-- ==== Sys2Proof/Machine/Ops.lean ====
section
/-! DEFINITION. The named operations over the buffer and the registers, and the outcomes of an attempt: clear, abort
(the block's analogue of taking an exception, 60_exceptions R340), finish a frame, send a frame. Nothing returns from
an abort: the attempt is discarded (60_exceptions R340). -/

namespace Sys2Proof.Machine

/-! ### The payload buffer (20_memory R70 to R72) -/

/-- How many bytes the buffer has (20_memory R70). -/
def bufferSize : Nat := 32

/-- One byte; an unlisted address reads 0x00, the reset contents (10_state R53). -/
def Memory.read : Memory → Nat → Byte
  | [], _ => 0x00#8
  | (k, v) :: m, a => if k = a then v else Memory.read m a

/-- Write one byte, keeping the canonical form: writing 0x00 removes the entry. -/
def Memory.write : Memory → Nat → Byte → Memory
  | [], a, b => if b = 0x00#8 then [] else [(a, b)]
  | (k, v) :: m, a, b =>
    if a < k then (if b = 0x00#8 then (k, v) :: m else (a, b) :: (k, v) :: m)
    else if a = k then (if b = 0x00#8 then m else (a, b) :: m)
    else (k, v) :: Memory.write m a b

/-- Addresses rise from `low` on, lie in the buffer, and no listed byte is 0x00. -/
def Memory.wfFrom : Nat → Memory → Bool
  | _, [] => true
  | low, (k, v) :: m => decide (low ≤ k) && decide (k < bufferSize) && decide (v ≠ 0x00#8) && Memory.wfFrom (k + 1) m

/-- The canonical form of the buffer's contents. -/
def Memory.wf (m : Memory) : Bool := Memory.wfFrom 0 m

/-- R71, `MemWrite(i, 1, v)`; no byte above index 31 exists. -/
def Memory.write? (m : Memory) (i : Nat) (v : Byte) : Option Memory :=
  if i < bufferSize then some (Memory.write m i v) else none

/-- R72, `buf[0..n)`; no byte above index 31 exists. -/
def Memory.prefix? (m : Memory) (n : Nat) : Option (List Byte) :=
  if n ≤ bufferSize then some ((List.range n).map (Memory.read m)) else none

/-! ### Registers and RX outputs -/

/-- A step begins with no event and no diagnostic (40_framer R130). -/
def quiet (s : State) : State := { s with ev := [], diag := .none }

/-- R151, `Clear()`: IDLE, and every register zero. -/
def clear (s : State) : State :=
  { s with
    st := .idle, ctrl := 0x00#8, cmd := 0x00#8, len := 0#16, rem := 0#16, cnt := 0#6, buf := [], crc := 0x00#8 }

/-- The RX outputs of the step. -/
def setReport (r : Report) (s : State) : State := { s with ev := r.events, diag := r.diag }

/-- R150, `Abort(d)`: the one shared way in which an attempt fails. No event, the diagnostic code, everything cleared. -/
def abort (d : Diag) (s : State) : State := clear (setReport ⟨[], d⟩ s)

/-- The end of `Complete()` (R152): the dispatcher's result on the outputs, and the Framer cleared. -/
def finishFrame (r : Report) (s : State) : State := clear (setReport r s)

/-- 70_reset_and_hazards R360: reset is Clear with no diagnostic. -/
def resetRx (s : State) : State := clear (setReport ⟨[], .none⟩ s)

/-! ### TX outputs (10_state R49) -/

/-- `None`: `tx_valid = 0`, no bytes. -/
def noFrame (s : State) : State := { s with txValid := false, txFrame := [] }

/-- The ten bytes of an outbound frame (45_encoder R300): the template, its checksum in byte 7, and the tail. -/
def outboundFrame (ctrl cmd v : Byte) : List Byte :=
  let template := [header1, header2, ctrl, cmd, 0x00#8, 0x01#8, v]
  template ++ [generate template] ++ [tail1, tail2]

/-- `Some(F)`: `tx_valid = 1`, and the frame. -/
def sendFrame (ctrl cmd v : Byte) (s : State) : State :=
  { s with txValid := true, txFrame := outboundFrame ctrl cmd v }

/-- The outcome of a dispatch: the frame is finished with this report. -/
def report (r : Report) (s : State) : StepResult := .next (finishFrame r s)

/-- The outcome of a request that gives a frame. -/
def transmit (ctrl cmd v : Byte) (s : State) : StepResult := .next (sendFrame ctrl cmd v s)

/-- The outcome of a request that gives no frame. -/
def suppress (s : State) : StepResult := .next (noFrame s)

end Sys2Proof.Machine
end

