-- ==== Sys2Proof/Machine/RxParameters.lean ====
section
/-! DEFINITION. The parameter keys (control word 08), 42_dispatcher
R222 to R248. Each meaning is the dispatcher's result for its key, put on the RX outputs by the completion of the frame. -/

namespace Sys2Proof.Machine

/-- R222, key 08/00: `OutputSwitch(p ≠ 0)`; needs one byte. -/
def execRx0800OutputSwitch (payload : List Byte) (s : State) : StepResult :=
  report (withByte payload 0 fun p => oneEvent (.outputSwitch (asBool p))) s

/-- R223, key 08/80: `OutputSwitch(p ≠ 0)`; needs one byte. -/
def execRx0880OutputSwitch (payload : List Byte) (s : State) : StepResult :=
  report (withByte payload 0 fun p => oneEvent (.outputSwitch (asBool p))) s

/-- R224, key 08/01: five events from bytes 0 to 4; needs five bytes. -/
def execRx0801PackedFields (payload : List Byte) (s : State) : StepResult :=
  report (packedReport payload) s

/-- R225, key 08/81: `SpatialStaticValue(p)`; needs one byte. -/
def execRx0881StaticValue (payload : List Byte) (s : State) : StepResult :=
  report (withByte payload 0 fun p => oneEvent (.spatialStaticValue p)) s

/-- R226, key 08/82: `PresenceDetectionDistance(p)` in half units; needs one byte. -/
def execRx0882DetectionDistance (payload : List Byte) (s : State) : StepResult :=
  report (withByte payload 0 fun p => oneEvent (.presenceDetectionDistance (asHalfUnits p))) s

/-- R227, key 08/83: `SpatialMotionValue(p)`; needs one byte. -/
def execRx0883MotionValue (payload : List Byte) (s : State) : StepResult :=
  report (withByte payload 0 fun p => oneEvent (.spatialMotionValue p)) s

/-- R228, key 08/84: `MotionDistance(p)` in half units; needs one byte. -/
def execRx0884MotionDistance (payload : List Byte) (s : State) : StepResult :=
  report (withByte payload 0 fun p => oneEvent (.motionDistance (asHalfUnits p))) s

/-- R229, key 08/85: `MotionSpeed(p - 10)`, signed half units; needs one byte. -/
def execRx0885MotionSpeed (payload : List Byte) (s : State) : StepResult :=
  report (withByte payload 0 fun p => oneEvent (.motionSpeed (asSpeed p))) s

/-- R230, key 08/06: `KeepAwayState` by KA_TABLE; needs one byte below 3. -/
def execRx0806KeepAway (payload : List Byte) (s : State) : StepResult :=
  report (withByte payload 0 (lookup keepAwayTable .keepAwayState)) s

/-- R231, key 08/86: `KeepAwayState` by KA_TABLE; needs one byte below 3. -/
def execRx0886KeepAway (payload : List Byte) (s : State) : StepResult :=
  report (withByte payload 0 (lookup keepAwayTable .keepAwayState)) s

/-- R232, key 08/07: `MovementSigns(p)`; needs one byte. -/
def execRx0807MovementSigns (payload : List Byte) (s : State) : StepResult :=
  report (withByte payload 0 fun p => oneEvent (.movementSigns p)) s

/-- R233, key 08/87: `MovementSigns(p)`; needs one byte. -/
def execRx0887MovementSigns (payload : List Byte) (s : State) : StepResult :=
  report (withByte payload 0 fun p => oneEvent (.movementSigns p)) s

/-- R234, key 08/08: INERT_COMMAND and no event, whatever the payload. -/
def execRx0808Inert (_payload : List Byte) (s : State) : StepResult :=
  report (noEvent .inertCommand) s

/-- R235, key 08/09: INERT_COMMAND and no event, whatever the payload. -/
def execRx0809Inert (_payload : List Byte) (s : State) : StepResult :=
  report (noEvent .inertCommand) s

/-- R236, key 08/0A: INERT_COMMAND and no event, whatever the payload. -/
def execRx080AInert (_payload : List Byte) (s : State) : StepResult :=
  report (noEvent .inertCommand) s

/-- R237, key 08/0B: INERT_COMMAND and no event, whatever the payload. -/
def execRx080BInert (_payload : List Byte) (s : State) : StepResult :=
  report (noEvent .inertCommand) s

/-- R238, key 08/0C: INERT_COMMAND and no event, whatever the payload. -/
def execRx080CInert (_payload : List Byte) (s : State) : StepResult :=
  report (noEvent .inertCommand) s

/-- R239, key 08/0D: INERT_COMMAND and no event, whatever the payload. -/
def execRx080DInert (_payload : List Byte) (s : State) : StepResult :=
  report (noEvent .inertCommand) s

/-- R240, key 08/0E: INERT_COMMAND and no event, whatever the payload. -/
def execRx080EInert (_payload : List Byte) (s : State) : StepResult :=
  report (noEvent .inertCommand) s

/-- R241, key 08/88: INERT_COMMAND and no event, whatever the payload. -/
def execRx0888Inert (_payload : List Byte) (s : State) : StepResult :=
  report (noEvent .inertCommand) s

/-- R242, key 08/89: INERT_COMMAND and no event, whatever the payload. -/
def execRx0889Inert (_payload : List Byte) (s : State) : StepResult :=
  report (noEvent .inertCommand) s

/-- R243, key 08/8A: INERT_COMMAND and no event, whatever the payload. -/
def execRx088AInert (_payload : List Byte) (s : State) : StepResult :=
  report (noEvent .inertCommand) s

/-- R244, key 08/8B: INERT_COMMAND and no event, whatever the payload. -/
def execRx088BInert (_payload : List Byte) (s : State) : StepResult :=
  report (noEvent .inertCommand) s

/-- R245, key 08/8C: INERT_COMMAND and no event, whatever the payload. -/
def execRx088CInert (_payload : List Byte) (s : State) : StepResult :=
  report (noEvent .inertCommand) s

/-- R246, key 08/8D: INERT_COMMAND and no event, whatever the payload. -/
def execRx088DInert (_payload : List Byte) (s : State) : StepResult :=
  report (noEvent .inertCommand) s

/-- R247, key 08/8E: INERT_COMMAND and no event, whatever the payload. -/
def execRx088EInert (_payload : List Byte) (s : State) : StepResult :=
  report (noEvent .inertCommand) s

/-- R248, key 08/other: `Unrecognized` with both words; the payload is not read. -/
def execRx08XXUnknown (cmd : Byte) (_payload : List Byte) (s : State) : StepResult :=
  report (unknownKey 0x08#8 cmd) s

end Sys2Proof.Machine
end

