-- ==== Sys2Proof/Machine/RxPresence.lean ====
section
/-! DEFINITION. The human-presence keys (control word 80), 42_dispatcher
R249 to R259. Each meaning is the dispatcher's result for its key, put on the RX outputs by the completion of the frame. -/

namespace Sys2Proof.Machine

/-- R249, key 80/01: `HumanPresence` by HP_TABLE; needs one byte below 2. -/
def execRx8001HumanPresence (payload : List Byte) (s : State) : StepResult :=
  report (withByte payload 0 (lookup presenceTable .humanPresence)) s

/-- R250, key 80/81: `HumanPresence` by HP_TABLE; needs one byte below 2. -/
def execRx8081HumanPresence (payload : List Byte) (s : State) : StepResult :=
  report (withByte payload 0 (lookup presenceTable .humanPresence)) s

/-- R251, key 80/02: `MotionStatus` by MS_TABLE; needs one byte below 3. -/
def execRx8002MotionStatus (payload : List Byte) (s : State) : StepResult :=
  report (withByte payload 0 (lookup motionTable .motionStatus)) s

/-- R252, key 80/82: `MotionStatus` by MS_TABLE; needs one byte below 3. -/
def execRx8082MotionStatus (payload : List Byte) (s : State) : StepResult :=
  report (withByte payload 0 (lookup motionTable .motionStatus)) s

/-- R253, key 80/03: `MovementSigns(p)`; needs one byte. -/
def execRx8003MovementSigns (payload : List Byte) (s : State) : StepResult :=
  report (withByte payload 0 fun p => oneEvent (.movementSigns p)) s

/-- R254, key 80/83: `MovementSigns(p)`; needs one byte. -/
def execRx8083MovementSigns (payload : List Byte) (s : State) : StepResult :=
  report (withByte payload 0 fun p => oneEvent (.movementSigns p)) s

/-- R255, key 80/0B: `KeepAwayState` by KA_TABLE; needs one byte below 3. -/
def execRx800BKeepAway (payload : List Byte) (s : State) : StepResult :=
  report (withByte payload 0 (lookup keepAwayTable .keepAwayState)) s

/-- R256, key 80/8B: `KeepAwayState` by KA_TABLE; needs one byte below 3. -/
def execRx808BKeepAway (payload : List Byte) (s : State) : StepResult :=
  report (withByte payload 0 (lookup keepAwayTable .keepAwayState)) s

/-- R257, key 80/0A: INERT_COMMAND and no event, whatever the payload. -/
def execRx800AInert (_payload : List Byte) (s : State) : StepResult :=
  report (noEvent .inertCommand) s

/-- R258, key 80/8A: INERT_COMMAND and no event, whatever the payload. -/
def execRx808AInert (_payload : List Byte) (s : State) : StepResult :=
  report (noEvent .inertCommand) s

/-- R259, key 80/other: `Unrecognized` with both words; the payload is not read. -/
def execRx80XXUnknown (cmd : Byte) (_payload : List Byte) (s : State) : StepResult :=
  report (unknownKey 0x80#8 cmd) s

end Sys2Proof.Machine
end

