-- ==== Sys2Proof/Machine/RxProduct.lean ====
section
/-! DEFINITION. The product-information keys (control word 02), 42_dispatcher
R208 to R212. Each meaning is the dispatcher's result for its key, put on the RX outputs by the completion of the frame. -/

namespace Sys2Proof.Machine

/-- R208, key 02/A1: the ProductModel text (R204). -/
def execRx02A1ProductModel (payload : List Byte) (s : State) : StepResult :=
  report (textReport Config.textBound .productModel payload) s

/-- R209, key 02/A2: the ProductId text (R204). -/
def execRx02A2ProductId (payload : List Byte) (s : State) : StepResult :=
  report (textReport Config.textBound .productId payload) s

/-- R210, key 02/A3: the HardwareModel text (R204). -/
def execRx02A3HardwareModel (payload : List Byte) (s : State) : StepResult :=
  report (textReport Config.textBound .hardwareModel payload) s

/-- R211, key 02/A4: the FirmwareVersion text (R204). -/
def execRx02A4FirmwareVersion (payload : List Byte) (s : State) : StepResult :=
  report (textReport Config.textBound .firmwareVersion payload) s

/-- R212, key 02/other: `Unrecognized` with both words; the payload is not read. -/
def execRx02XXUnknown (cmd : Byte) (_payload : List Byte) (s : State) : StepResult :=
  report (unknownKey 0x02#8 cmd) s

end Sys2Proof.Machine
end

