-- ==== Sys2Proof/Machine/RxSystem.lean ====
section
/-! DEFINITION. The system keys (control word 01) and the global row for every other control word (R203), 42_dispatcher
R205 to R207. Each meaning is the dispatcher's result for its key, put on the RX outputs by the completion of the frame. -/

namespace Sys2Proof.Machine

/-- R205, key 01/01: `Heartbeat`, whatever the payload. -/
def execRx0101Heartbeat (_payload : List Byte) (s : State) : StepResult :=
  report (oneEvent .heartbeat) s

/-- R206, key 01/02: RESET_ACK and no event; nothing is reset (70_reset_and_hazards R364). -/
def execRx0102ResetAck (_payload : List Byte) (s : State) : StepResult :=
  report (noEvent .resetAck) s

/-- R207, key 01/other: `Unrecognized` with both words; the payload is not read. -/
def execRx01XXUnknown (cmd : Byte) (_payload : List Byte) (s : State) : StepResult :=
  report (unknownKey 0x01#8 cmd) s

/-- R203, any other control word: `Unrecognized` with both words; the payload is not read. -/
def execRxXXXXUnknown (ctrl : Byte) (cmd : Byte) (_payload : List Byte) (s : State) : StepResult :=
  report (unknownKey ctrl cmd) s

end Sys2Proof.Machine
end

