-- ==== Sys2Proof/Machine/RxWorkStatus.lean ====
section
/-! DEFINITION. The work-status keys (control word 05), 42_dispatcher
R213 to R221. Each meaning is the dispatcher's result for its key, put on the RX outputs by the completion of the frame. -/

namespace Sys2Proof.Machine

/-- R213, key 05/01: INIT_STATUS and no event, whatever the payload. -/
def execRx0501InitStatus (_payload : List Byte) (s : State) : StepResult :=
  report (noEvent .initStatus) s

/-- R214, key 05/81: INIT_STATUS and no event, whatever the payload. -/
def execRx0581InitStatus (_payload : List Byte) (s : State) : StepResult :=
  report (noEvent .initStatus) s

/-- R215, key 05/87: `SceneMode(p - 1)` for `p` in 1..SCENE_COUNT, else out of range. -/
def execRx0587SceneMode (payload : List Byte) (s : State) : StepResult :=
  report (withByte payload 0 (sceneIndex Config.sceneCount)) s

/-- R216, key 05/07: INERT_COMMAND and no event, whatever the payload. -/
def execRx0507Inert (_payload : List Byte) (s : State) : StepResult :=
  report (noEvent .inertCommand) s

/-- R217, key 05/08: INERT_COMMAND and no event, whatever the payload. -/
def execRx0508Inert (_payload : List Byte) (s : State) : StepResult :=
  report (noEvent .inertCommand) s

/-- R218, key 05/09: INERT_COMMAND and no event, whatever the payload. -/
def execRx0509Inert (_payload : List Byte) (s : State) : StepResult :=
  report (noEvent .inertCommand) s

/-- R219, key 05/88: INERT_COMMAND and no event, whatever the payload. -/
def execRx0588Inert (_payload : List Byte) (s : State) : StepResult :=
  report (noEvent .inertCommand) s

/-- R220, key 05/89: INERT_COMMAND and no event, whatever the payload. -/
def execRx0589Inert (_payload : List Byte) (s : State) : StepResult :=
  report (noEvent .inertCommand) s

/-- R221, key 05/other: `Unrecognized` with both words; the payload is not read. -/
def execRx05XXUnknown (cmd : Byte) (_payload : List Byte) (s : State) : StepResult :=
  report (unknownKey 0x05#8 cmd) s

end Sys2Proof.Machine
end

