-- ==== Sys2Proof/Machine/Tx.lean ====
section
/-! DEFINITION. The outbound requests (45_encoder R301 to R310). The TX agent holds no state: a request writes the TX output
ports and nothing else. -/

namespace Sys2Proof.Machine

/-- R301, kind 0: key 01/01, payload byte 0x0F; the argument is ignored. -/
def execTxHeartbeat (_arg : Byte) (s : State) : StepResult :=
  transmit 0x01#8 0x01#8 0x0F#8 s

/-- R302, kind 1: key 08/80, payload byte 0x0F; the argument is ignored. -/
def execTxQueryOutputSwitch (_arg : Byte) (s : State) : StepResult :=
  transmit 0x08#8 0x80#8 0x0F#8 s

/-- R303, kind 2: key 02/A1, payload byte 0x0F; the argument is ignored. -/
def execTxQueryProductMode (_arg : Byte) (s : State) : StepResult :=
  transmit 0x02#8 0xA1#8 0x0F#8 s

/-- R304, kind 3: key 02/A2, payload byte 0x0F; the argument is ignored. -/
def execTxQueryProductId (_arg : Byte) (s : State) : StepResult :=
  transmit 0x02#8 0xA2#8 0x0F#8 s

/-- R305, kind 4: key 02/A3, payload byte 0x0F; the argument is ignored. -/
def execTxQueryHardwareModel (_arg : Byte) (s : State) : StepResult :=
  transmit 0x02#8 0xA3#8 0x0F#8 s

/-- R306, kind 5: key 02/A4, payload byte 0x0F; the argument is ignored. -/
def execTxQueryFirmwareVersion (_arg : Byte) (s : State) : StepResult :=
  transmit 0x02#8 0xA4#8 0x0F#8 s

/-- R307, kind 6: key 80/81, payload byte 0x0F; the argument is ignored. -/
def execTxQueryHumanStatus (_arg : Byte) (s : State) : StepResult :=
  transmit 0x80#8 0x81#8 0x0F#8 s

/-- R308, kind 7: key 80/8B, payload byte 0x0F; the argument is ignored. -/
def execTxQueryKeepAway (_arg : Byte) (s : State) : StepResult :=
  transmit 0x80#8 0x8B#8 0x0F#8 s

/-- R309, kind 8: key 08/00, payload byte 0x01 for on and 0x00 for off; bit 0 of the argument says which. -/
def execTxSetOutputSwitch (arg : Byte) (s : State) : StepResult :=
  transmit 0x08#8 0x00#8 (if arg.getLsbD 0 then 0x01#8 else 0x00#8) s

/-- R310, kind 9: key 05/07, the scene code at the index `arg`; no frame for an index outside SCENE_CODES or a code 0x00. -/
def execTxSetSceneMode (arg : Byte) (s : State) : StepResult :=
  .next (match sceneCode Config.sceneCodes arg with
    | none => noFrame s
    | some code => sendFrame 0x05#8 0x07#8 code s)

end Sys2Proof.Machine
end

