-- ==== Sys2Proof/Machine/Dispatch.lean ====
section
/-! DEFINITION. The dispatcher (42_dispatcher R200) and the encoder (45_encoder R300): one arm per instruction. -/

namespace Sys2Proof.Machine

/-- The effect of an instruction. -/
def exec (i : Instr) (s : State) : Host.Outcome State Fault Refusal :=
  match i with
  | .rx0101Heartbeat payload => Sys2Proof.Machine.execRx0101Heartbeat payload s
  | .rx0102ResetAck payload => Sys2Proof.Machine.execRx0102ResetAck payload s
  | .rx01XXUnknown cmd payload => Sys2Proof.Machine.execRx01XXUnknown cmd payload s
  | .rx02A1ProductModel payload => Sys2Proof.Machine.execRx02A1ProductModel payload s
  | .rx02A2ProductId payload => Sys2Proof.Machine.execRx02A2ProductId payload s
  | .rx02A3HardwareModel payload => Sys2Proof.Machine.execRx02A3HardwareModel payload s
  | .rx02A4FirmwareVersion payload => Sys2Proof.Machine.execRx02A4FirmwareVersion payload s
  | .rx02XXUnknown cmd payload => Sys2Proof.Machine.execRx02XXUnknown cmd payload s
  | .rx0501InitStatus payload => Sys2Proof.Machine.execRx0501InitStatus payload s
  | .rx0581InitStatus payload => Sys2Proof.Machine.execRx0581InitStatus payload s
  | .rx0587SceneMode payload => Sys2Proof.Machine.execRx0587SceneMode payload s
  | .rx0507Inert payload => Sys2Proof.Machine.execRx0507Inert payload s
  | .rx0508Inert payload => Sys2Proof.Machine.execRx0508Inert payload s
  | .rx0509Inert payload => Sys2Proof.Machine.execRx0509Inert payload s
  | .rx0588Inert payload => Sys2Proof.Machine.execRx0588Inert payload s
  | .rx0589Inert payload => Sys2Proof.Machine.execRx0589Inert payload s
  | .rx05XXUnknown cmd payload => Sys2Proof.Machine.execRx05XXUnknown cmd payload s
  | .rx0800OutputSwitch payload => Sys2Proof.Machine.execRx0800OutputSwitch payload s
  | .rx0880OutputSwitch payload => Sys2Proof.Machine.execRx0880OutputSwitch payload s
  | .rx0801PackedFields payload => Sys2Proof.Machine.execRx0801PackedFields payload s
  | .rx0881StaticValue payload => Sys2Proof.Machine.execRx0881StaticValue payload s
  | .rx0882DetectionDistance payload => Sys2Proof.Machine.execRx0882DetectionDistance payload s
  | .rx0883MotionValue payload => Sys2Proof.Machine.execRx0883MotionValue payload s
  | .rx0884MotionDistance payload => Sys2Proof.Machine.execRx0884MotionDistance payload s
  | .rx0885MotionSpeed payload => Sys2Proof.Machine.execRx0885MotionSpeed payload s
  | .rx0806KeepAway payload => Sys2Proof.Machine.execRx0806KeepAway payload s
  | .rx0886KeepAway payload => Sys2Proof.Machine.execRx0886KeepAway payload s
  | .rx0807MovementSigns payload => Sys2Proof.Machine.execRx0807MovementSigns payload s
  | .rx0887MovementSigns payload => Sys2Proof.Machine.execRx0887MovementSigns payload s
  | .rx0808Inert payload => Sys2Proof.Machine.execRx0808Inert payload s
  | .rx0809Inert payload => Sys2Proof.Machine.execRx0809Inert payload s
  | .rx080AInert payload => Sys2Proof.Machine.execRx080AInert payload s
  | .rx080BInert payload => Sys2Proof.Machine.execRx080BInert payload s
  | .rx080CInert payload => Sys2Proof.Machine.execRx080CInert payload s
  | .rx080DInert payload => Sys2Proof.Machine.execRx080DInert payload s
  | .rx080EInert payload => Sys2Proof.Machine.execRx080EInert payload s
  | .rx0888Inert payload => Sys2Proof.Machine.execRx0888Inert payload s
  | .rx0889Inert payload => Sys2Proof.Machine.execRx0889Inert payload s
  | .rx088AInert payload => Sys2Proof.Machine.execRx088AInert payload s
  | .rx088BInert payload => Sys2Proof.Machine.execRx088BInert payload s
  | .rx088CInert payload => Sys2Proof.Machine.execRx088CInert payload s
  | .rx088DInert payload => Sys2Proof.Machine.execRx088DInert payload s
  | .rx088EInert payload => Sys2Proof.Machine.execRx088EInert payload s
  | .rx08XXUnknown cmd payload => Sys2Proof.Machine.execRx08XXUnknown cmd payload s
  | .rx8001HumanPresence payload => Sys2Proof.Machine.execRx8001HumanPresence payload s
  | .rx8081HumanPresence payload => Sys2Proof.Machine.execRx8081HumanPresence payload s
  | .rx8002MotionStatus payload => Sys2Proof.Machine.execRx8002MotionStatus payload s
  | .rx8082MotionStatus payload => Sys2Proof.Machine.execRx8082MotionStatus payload s
  | .rx8003MovementSigns payload => Sys2Proof.Machine.execRx8003MovementSigns payload s
  | .rx8083MovementSigns payload => Sys2Proof.Machine.execRx8083MovementSigns payload s
  | .rx800BKeepAway payload => Sys2Proof.Machine.execRx800BKeepAway payload s
  | .rx808BKeepAway payload => Sys2Proof.Machine.execRx808BKeepAway payload s
  | .rx800AInert payload => Sys2Proof.Machine.execRx800AInert payload s
  | .rx808AInert payload => Sys2Proof.Machine.execRx808AInert payload s
  | .rx80XXUnknown cmd payload => Sys2Proof.Machine.execRx80XXUnknown cmd payload s
  | .rxXXXXUnknown ctrl cmd payload => Sys2Proof.Machine.execRxXXXXUnknown ctrl cmd payload s
  | .txHeartbeat arg => Sys2Proof.Machine.execTxHeartbeat arg s
  | .txQueryOutputSwitch arg => Sys2Proof.Machine.execTxQueryOutputSwitch arg s
  | .txQueryProductMode arg => Sys2Proof.Machine.execTxQueryProductMode arg s
  | .txQueryProductId arg => Sys2Proof.Machine.execTxQueryProductId arg s
  | .txQueryHardwareModel arg => Sys2Proof.Machine.execTxQueryHardwareModel arg s
  | .txQueryFirmwareVersion arg => Sys2Proof.Machine.execTxQueryFirmwareVersion arg s
  | .txQueryHumanStatus arg => Sys2Proof.Machine.execTxQueryHumanStatus arg s
  | .txQueryKeepAway arg => Sys2Proof.Machine.execTxQueryKeepAway arg s
  | .txSetOutputSwitch arg => Sys2Proof.Machine.execTxSetOutputSwitch arg s
  | .txSetSceneMode arg => Sys2Proof.Machine.execTxSetSceneMode arg s

end Sys2Proof.Machine
end

