-- ==== Sys2Proof/Machine/Framer.lean ====
section
/-! DEFINITION. The Framer (40_framer): one transition per accepted byte. Each definition below is one row of the transition
table, with both of its outcomes; `rxStep` is R130. Every definition takes the state with the outputs already quiet. -/

namespace Sys2Proof.Machine

/-- R131, R132: in IDLE, 0x53 starts an attempt and any other byte is discarded. The unreachable codes do the same
(R149). -/
def hunt (b : Byte) (s : State) : State :=
  if b = header1 then { s with st := .sawH1 } else { s with st := .idle }

/-- R133, R134: header2, or a desync. -/
def acceptHeader2 (b : Byte) (s : State) : State :=
  if b = header2 then { s with st := .afterH2 } else abort .framingDesync s

/-- R135: the control word. -/
def acceptCtrl (b : Byte) (s : State) : State := { s with ctrl := b, st := .readCtrl }

/-- R136: the command word. -/
def acceptCmd (b : Byte) (s : State) : State := { s with cmd := b, st := .readLenHi }

/-- R137, R138: the length-high byte, at most 4, or a desync. -/
def acceptLenHi (b : Byte) (s : State) : State :=
  if b.toNat ≤ Config.lenHiMax then { s with len := BitVec.ofNat 16 (b.toNat * 256), st := .readLenLo }
  else abort .framingDesync s

/-- R139 to R141: the length-low byte. The sum is exact (00_scope R14); above 32 it aborts, at 0 the checksum byte is next. -/
def acceptLenLo (b : Byte) (s : State) : State :=
  let t := s.len.toNat + b.toNat
  if t > Config.maxPayload then abort .payloadOutOfRange s
  else if t = 0 then { s with len := 0#16, cnt := 0#6, st := .readCrc }
  else { s with len := BitVec.ofNat 16 t, rem := BitVec.ofNat 16 t, cnt := 0#6, st := .readPayload }

/-- R142, R143: a payload byte, stored at `buf[cnt]`; after the last one the checksum byte is next. -/
def acceptPayload (b : Byte) (s : State) : StepResult :=
  match Memory.write? s.buf s.cnt.toNat b with
  | none => .fault .noSuchBufferByte
  | some buf =>
    let t := s.rem - 1#16
    .next { s with buf := buf, cnt := s.cnt + 1#6, rem := t, st := if t = 0#16 then .readCrc else .readPayload }

/-- R144: the checksum byte, stored without a test (R154). -/
def acceptCrc (b : Byte) (s : State) : State := { s with crc := b, st := .sawT1 }

/-- R145, R146: tail1, or a desync. -/
def acceptTail1 (b : Byte) (s : State) : State :=
  if b = tail1 then { s with st := .expectT2 } else abort .framingDesync s

/-- R153, `RawFrame()`: the bytes accepted for this attempt, the payload being `buf[0..len)`. -/
def rawFrame (s : State) (payload : List Byte) : List Byte :=
  frameBytes s.ctrl s.cmd (s.len.extractLsb' 8 8) (s.len.extractLsb' 0 8) payload s.crc

/-- R152, `Complete()`: validate the frame; dispatch its key when it is valid; clear the Framer either way. -/
def complete (s : State) : StepResult :=
  match Memory.prefix? s.buf s.len.toNat with
  | none => .fault .noSuchBufferByte
  | some payload =>
    if validFrame (rawFrame s payload) then exec (decodeKey s.ctrl s.cmd payload) s
    else .next (finishFrame ⟨[], .checksumMismatch⟩ s)

/-- R147, R148: tail2 completes the frame, or a desync. -/
def acceptTail2 (b : Byte) (s : State) : StepResult :=
  if b = tail2 then complete s else .next (abort .framingDesync s)

/-- R130, `RxStep(b)`. -/
def rxStep (b : Byte) (s : State) : StepResult :=
  match s.st with
  | .idle => .next (hunt b (quiet s))
  | .sawH1 => .next (acceptHeader2 b (quiet s))
  | .afterH2 => .next (acceptCtrl b (quiet s))
  | .readCtrl => .next (acceptCmd b (quiet s))
  | .readCmd => .next (hunt b (quiet s))
  | .readLenHi => .next (acceptLenHi b (quiet s))
  | .readLenLo => .next (acceptLenLo b (quiet s))
  | .readPayload => acceptPayload b (quiet s)
  | .readCrc => .next (acceptCrc b (quiet s))
  | .sawT1 => .next (acceptTail1 b (quiet s))
  | .expectT2 => acceptTail2 b (quiet s)
  | .unused11 => .next (hunt b (quiet s))
  | .unused12 => .next (hunt b (quiet s))
  | .unused13 => .next (hunt b (quiet s))
  | .unused14 => .next (hunt b (quiet s))
  | .unused15 => .next (hunt b (quiet s))

end Sys2Proof.Machine
end

