-- ==== Sys2Proof/Machine/Ports.lean ====
section
/-! DEFINITION. One step of the whole block on one sample of the input ports (10_state R47): the RX agent, then the TX agent.
They share no state, so the order cannot be observed (70_reset_and_hazards R371, log 6). -/

namespace Sys2Proof.Machine

/-- Nothing presented: no reset, no byte, no request. -/
def noInput : PortSample :=
  { rst := false, rxValid := false, rxByte := 0x00#8, txReqValid := false, txReqKind := 0#4, txReqArg := 0x00#8 }

/-- One inbound byte and nothing else. -/
def byteInput (b : Byte) : PortSample := { noInput with rxValid := true, rxByte := b }

/-- One request and nothing else. -/
def requestInput (kind : BitVec 4) (arg : Byte) : PortSample :=
  { noInput with txReqValid := true, txReqKind := kind, txReqArg := arg }

/-- The RX agent's part: a reset takes priority and drops the byte (70_reset_and_hazards R360); without a byte nothing
happens but that the outputs are quiet (40_framer R160). -/
def rxPart (p : PortSample) (s : State) : StepResult :=
  if p.rst then .next (resetRx s)
  else if p.rxValid then rxStep p.rxByte s
  else .next (quiet s)

/-- A request (45_encoder R300): the instruction of its kind, or no frame for a reserved kind (R311). -/
def runRequest (kind : BitVec 4) (arg : Byte) (s : State) : StepResult :=
  match decodeRequest kind arg with
  | .ok i => exec i s
  | .error _ => suppress s

/-- The TX agent's part: without a request no frame; reset does not touch it (70_reset_and_hazards R361). -/
def txPart (p : PortSample) (s : State) : StepResult :=
  if p.txReqValid then runRequest p.txReqKind p.txReqArg s else suppress s

/-- One step on one sample. -/
def portStep (p : PortSample) (s : State) : StepResult :=
  match rxPart p s with
  | .next t => txPart p t
  | .fault f => .fault f
  | .refused r => .refused r

/-- The next sample, and the state with it consumed; with none left, nothing is presented (log 2). -/
def nextSample (s : State) : PortSample := s.inputs.headD noInput

/-- The state with its next sample consumed. -/
def dropSample (s : State) : State := { s with inputs := s.inputs.tail }

/-- The block about to take the last byte of a frame with an empty payload and this key: the registers as the Framer leaves
them after `53 59 ctrl cmd 00 00 crc 54`, and 0x43 presented next (log 7). -/
def placeFrame (ctrl cmd : Byte) (s : State) : State :=
  { s with
    st := .expectT2, ctrl := ctrl, cmd := cmd, len := 0#16, cnt := 0#6
    crc := checksum (frameBytes ctrl cmd 0x00#8 0x00#8 [] 0x00#8)
    inputs := byteInput tail2 :: s.inputs }

/-- The request presented next. -/
def placeRequest (kind : BitVec 4) (arg : Byte) (s : State) : State :=
  { s with inputs := requestInput kind arg :: s.inputs }

/-- The parts of an instruction placed where the next step takes it. -/
def placeParts : Parts → State → State
  | .frame ctrl cmd _, s => placeFrame ctrl cmd s
  | .request kind arg, s => placeRequest kind arg s

end Sys2Proof.Machine
end

