-- ==== Sys2Proof/Machine/Step.lean ====
section
/-! DEFINITION. The machine's step: the next sample of the input ports is consumed and both agents act on it. -/

namespace Sys2Proof.Machine

/-- One step (00_scope R16, 10_state R47). -/
def step (s : State) : Host.Outcome State Fault Refusal :=
  portStep (nextSample s) (dropSample s)

/-- The state in which the very next step runs the instruction of a table word (log 7). -/
def State.withFetchWord (s : State) (nbits w : Nat) : State :=
  match tableWord nbits w with
  | none => s
  | some parts => placeParts parts s

end Sys2Proof.Machine
end

