-- ==== Sys2Proof/Machine/Flags.lean ====
section
/-! DEFINITION. The block has no flags (10_state R45). Its status codes stand here: the 3-bit diagnostic code of a step
(30_encoding R105) and the 4-bit code of the Framer state (10_state R31), with the contents of both registers for
every code. -/

namespace Sys2Proof.Machine

/-- `diag[2:0]` (30_encoding R105). -/
def Diag.code : Diag → BitVec 3
  | .none => 0#3
  | .framingDesync => 1#3
  | .checksumMismatch => 2#3
  | .payloadOutOfRange => 3#3
  | .unknownCommand => 4#3
  | .resetAck => 5#3
  | .initStatus => 6#3
  | .inertCommand => 7#3

/-- The diagnostic of a code: all eight codes are used. -/
def diagOfCode (c : BitVec 3) : Diag :=
  if c = 0#3 then .none
  else if c = 1#3 then .framingDesync
  else if c = 2#3 then .checksumMismatch
  else if c = 3#3 then .payloadOutOfRange
  else if c = 4#3 then .unknownCommand
  else if c = 5#3 then .resetAck
  else if c = 6#3 then .initStatus
  else .inertCommand

/-- The 4-bit contents of `st` (10_state R31). -/
def FramerState.code : FramerState → BitVec 4
  | .idle => 0#4
  | .sawH1 => 1#4
  | .afterH2 => 2#4
  | .readCtrl => 3#4
  | .readCmd => 4#4
  | .readLenHi => 5#4
  | .readLenLo => 6#4
  | .readPayload => 7#4
  | .readCrc => 8#4
  | .sawT1 => 9#4
  | .expectT2 => 10#4
  | .unused11 => 11#4
  | .unused12 => 12#4
  | .unused13 => 13#4
  | .unused14 => 14#4
  | .unused15 => 15#4

/-- The state of a code: all sixteen contents of the register. -/
def framerStateOfCode (c : BitVec 4) : FramerState :=
  if c = 0#4 then .idle
  else if c = 1#4 then .sawH1
  else if c = 2#4 then .afterH2
  else if c = 3#4 then .readCtrl
  else if c = 4#4 then .readCmd
  else if c = 5#4 then .readLenHi
  else if c = 6#4 then .readLenLo
  else if c = 7#4 then .readPayload
  else if c = 8#4 then .readCrc
  else if c = 9#4 then .sawT1
  else if c = 10#4 then .expectT2
  else if c = 11#4 then .unused11
  else if c = 12#4 then .unused12
  else if c = 13#4 then .unused13
  else if c = 14#4 then .unused14
  else .unused15

end Sys2Proof.Machine
end

