-- ==== Sys2Proof/Machine/EventBus.lean ====
section
/-! DEFINITION. The RX event bus (30_encoding R104): one record per event, every field that a tag does not list zero. -/

namespace Sys2Proof.Machine

/-- One record of the event bus. -/
structure EventRecord where
  /-- `ev_tag[4:0]`. -/
  tag : BitVec 5
  /-- `ev_a[7:0]`. -/
  a : Byte
  /-- `ev_b[7:0]`. -/
  b : Byte
  /-- `ev_half[15:0]`, two's complement. -/
  half : BitVec 16
  /-- `ev_text_len[5:0]`. -/
  textLen : BitVec 6
  /-- `ev_text[0..31]`, all 32 bytes. -/
  text : List Byte
  deriving DecidableEq, Repr

/-- The record of a tag with every other field zero. -/
def blankRecord (tag : BitVec 5) : EventRecord :=
  { tag := tag, a := 0x00#8, b := 0x00#8, half := 0#16, textLen := 0#6, text := List.replicate 32 0x00#8 }

/-- A text on the bus: its length, and its bytes from index 0 on; the bytes after it are zero. -/
def textRecord (tag : BitVec 5) (text : List Byte) : EventRecord :=
  { blankRecord tag with
    textLen := BitVec.ofNat 6 text.length
    text := text.take 32 ++ List.replicate (32 - text.length) 0x00#8 }

/-- A bool on the bus. -/
def boolByte (b : Bool) : Byte := if b then 0x01#8 else 0x00#8

/-- The keep-away enumeration on the bus. -/
def keepAwayByte : KeepAway → Byte
  | .none => 0x00#8
  | .closeTo => 0x01#8
  | .farAway => 0x02#8

/-- The motion enumeration on the bus. -/
def motionByte : Motion → Byte
  | .none => 0x00#8
  | .still => 0x01#8
  | .active => 0x02#8

/-- The record of an event (30_encoding R104). -/
def Event.record : Event → EventRecord
  | .heartbeat => blankRecord 0#5
  | .productModel text => textRecord 1#5 text
  | .productId text => textRecord 2#5 text
  | .hardwareModel text => textRecord 3#5 text
  | .firmwareVersion text => textRecord 4#5 text
  | .outputSwitch on => { blankRecord 5#5 with a := boolByte on }
  | .spatialStaticValue v => { blankRecord 6#5 with a := v }
  | .presenceDetectionDistance h => { blankRecord 7#5 with half := BitVec.setWidth 16 h }
  | .spatialMotionValue v => { blankRecord 8#5 with a := v }
  | .motionDistance h => { blankRecord 9#5 with half := BitVec.setWidth 16 h }
  | .motionSpeed h => { blankRecord 10#5 with half := BitVec.ofInt 16 h }
  | .keepAwayState s => { blankRecord 11#5 with a := keepAwayByte s }
  | .movementSigns v => { blankRecord 12#5 with a := v }
  | .sceneMode index => { blankRecord 13#5 with a := index }
  | .humanPresence present => { blankRecord 14#5 with a := boolByte present }
  | .motionStatus s => { blankRecord 15#5 with a := motionByte s }
  | .unrecognized control command => { blankRecord 16#5 with a := control, b := command }

/-- What the RX output ports carry in a state: the event records and the diagnostic code (10_state R48). -/
def rxPorts (s : State) : List EventRecord × BitVec 3 := (s.ev.map Event.record, s.diag.code)

end Sys2Proof.Machine
end

