-- ==== Sys2Proof/Safety.lean ====
section
/-! DEFINITION. The terms in which claims are made: what a state that a run can reach looks like, what the outputs of a step
look like, which registers carry meaning in which state, and what a step must leave alone. -/

namespace Sys2Proof.Machine

/-- The codes of `st` that a run from reset can reach (10_state R31, R33). -/
def FramerState.reachable : FramerState → Bool
  | .idle | .sawH1 | .afterH2 | .readCtrl | .readLenHi | .readLenLo | .readPayload | .readCrc | .sawT1 | .expectT2 => true
  | .readCmd | .unused11 | .unused12 | .unused13 | .unused14 | .unused15 => false

/-! ### What the RX outputs of a step look like -/

/-- The field types of 10_state R51: a text fits the buffer and the text bound, a speed is in -10..245, a scene index is
below SCENE_COUNT. Every other field is as wide as its type. -/
def Event.fits : Event → Bool
  | .productModel text | .productId text | .hardwareModel text | .firmwareVersion text =>
    decide (text.length ≤ Config.maxPayload) && decide (text.length < Config.textBound)
  | .motionSpeed h => decide (-10 ≤ h) && decide (h ≤ 245)
  | .sceneMode index => decide (index.toNat < Config.sceneCount.toNat)
  | _ => true

/-- The event is `Unrecognized`. -/
def Event.isUnrecognized : Event → Bool
  | .unrecognized _ _ => true
  | _ => false

/-- The diagnostic codes that come without an event when a valid frame is dispatched (42_dispatcher R262, last shape). -/
def Diag.quietDispatch : Diag → Bool
  | .payloadOutOfRange | .resetAck | .initStatus | .inertCommand => true
  | _ => false

/-- The four shapes of a dispatch result (42_dispatcher R262), every event of its type (10_state R51). -/
structure DispatchShape (ev : List Event) (d : Diag) : Prop where
  /-- One of the four shapes. -/
  shape :
    (∃ e, ev = [e] ∧ e.isUnrecognized = false ∧ d = .none) ∨
    (ev.length = 5 ∧ (∀ e ∈ ev, e.isUnrecognized = false) ∧ d = .none) ∨
    (∃ control command, ev = [.unrecognized control command] ∧ d = .unknownCommand) ∨
    (ev = [] ∧ d.quietDispatch = true)
  /-- Every event has fields of its type. -/
  fits : ∀ e ∈ ev, e.fits = true

/-- The outputs of any RX step: a dispatch result, or no event with NONE, FRAMING_DESYNC, CHECKSUM_MISMATCH or
PAYLOAD_OUT_OF_RANGE (40_framer R130). -/
def OutputShape (ev : List Event) (d : Diag) : Prop :=
  DispatchShape ev d ∨
  (ev = [] ∧ (d = .none ∨ d = .framingDesync ∨ d = .checksumMismatch ∨ d = .payloadOutOfRange))

/-! ### The invariant -/

/-- What every state that a run from reset can reach satisfies. -/
structure RunInvariant (s : State) : Prop where
  /-- `st` holds a reachable code (10_state R33). -/
  code : s.st.reachable = true
  /-- After the length-high byte, `len` is that byte, at most 4, times 256 (10_state R36, R42). -/
  lenHigh : s.st = .readLenLo → s.len.toNat % 256 = 0 ∧ s.len.toNat ≤ 1024
  /-- In the payload, `1 ≤ rem` and `cnt + rem = len ≤ 32` (10_state R36 to R38). -/
  payload : s.st = .readPayload →
    1 ≤ s.rem.toNat ∧ s.cnt.toNat + s.rem.toNat = s.len.toNat ∧ s.len.toNat ≤ Config.maxPayload
  /-- After the payload, `cnt = len ≤ 32` (10_state R36, R38). -/
  filled : s.st = .readCrc ∨ s.st = .sawT1 ∨ s.st = .expectT2 →
    s.cnt.toNat = s.len.toNat ∧ s.len.toNat ≤ Config.maxPayload
  /-- The buffer is in canonical form. -/
  canonical : Memory.wf s.buf = true
  /-- Ten bytes or none on the TX port (20_memory R76). -/
  frame : s.txFrame.length = if s.txValid then 10 else 0
  /-- The RX outputs are those of some step. -/
  outputs : OutputShape s.ev s.diag

/-- The instruction is the one that the decoder gives for this control word and this command word, with its payload
(30_encoding R94, R96). -/
def HasKey (i : Instr) (ctrl cmd : Byte) : Prop :=
  ∃ payload, i.parts = .frame ctrl cmd payload ∧ (i.wellFormed = true → decodeKey ctrl cmd payload = i)

/-- The instruction is the one that the decoder gives for this request kind, with its argument (30_encoding R103). -/
def HasKind (i : Instr) (kind : BitVec 4) : Prop :=
  ∃ arg, i.parts = .request kind arg ∧ decodeRequest kind arg = .ok i

/-- The instruction has this key, and completes in `s` with these RX outputs. -/
def Answers (ctrl cmd : Byte) (i : Instr) (s : State) (ev : List Event) (d : Diag) : Prop :=
  HasKey i ctrl cmd ∧ ∃ t, exec i s = .next t ∧ t.ev = ev ∧ t.diag = d

/-- The instruction has this kind, and completes in `s` with this frame on the TX port and the rest of the state as it
was. -/
def Sends (kind : BitVec 4) (i : Instr) (s : State) (frame : List Byte) : Prop :=
  HasKind i kind ∧ exec i s = .next { s with txValid := true, txFrame := frame }

/-- The frame that the registers hold when the last byte is taken (40_framer R153), written out. -/
def heldFrame (s : State) : List Byte :=
  [0x53#8, 0x59#8, s.ctrl, s.cmd, BitVec.ofNat 8 (s.len.toNat / 256), BitVec.ofNat 8 s.len.toNat] ++
    (List.range s.len.toNat).map (Memory.read s.buf) ++ [s.crc, 0x54#8, 0x43#8]

/-- The exact sum of a byte sequence. -/
def exactSum (bs : List Byte) : Nat := (bs.map BitVec.toNat).sum

/-- The sum modulo 256 of all bytes of a sequence but the last three (41_checksum_validator R170). -/
def frameSum (frame : List Byte) : Nat := exactSum (frame.take (frame.length - 3)) % 256

/-- A key that the source does not name (60_exceptions R334). -/
def UnnamedKey (ctrl cmd : Byte) : Prop :=
  ctrl ∉ knownControls ∨ (ctrl = 0x01#8 ∧ cmd ∉ knownCommands01) ∨ (ctrl = 0x02#8 ∧ cmd ∉ knownCommands02) ∨
    (ctrl = 0x05#8 ∧ cmd ∉ knownCommands05) ∨ (ctrl = 0x08#8 ∧ cmd ∉ knownCommands08) ∨
    (ctrl = 0x80#8 ∧ cmd ∉ knownCommands80)

/-! ### Which registers carry meaning (10_state R42) -/

/-- `ctrl` is marked in R42's row. -/
def FramerState.ctrlLive : FramerState → Bool
  | .readCtrl | .readLenHi | .readLenLo | .readPayload | .readCrc | .sawT1 | .expectT2 => true
  | _ => false

/-- `cmd` is marked in R42's row. -/
def FramerState.cmdLive : FramerState → Bool
  | .readLenHi | .readLenLo | .readPayload | .readCrc | .sawT1 | .expectT2 => true
  | _ => false

/-- `len` is marked in R42's row. -/
def FramerState.lenLive : FramerState → Bool
  | .readLenLo | .readPayload | .readCrc | .sawT1 | .expectT2 => true
  | _ => false

/-- `rem` is marked in R42's row. -/
def FramerState.remLive : FramerState → Bool
  | .readPayload => true
  | _ => false

/-- `cnt` and `buf[0..cnt)` are marked in R42's row. -/
def FramerState.bufLive : FramerState → Bool
  | .readPayload | .readCrc | .sawT1 | .expectT2 => true
  | _ => false

/-- `crc` is marked in R42's row. -/
def FramerState.crcLive : FramerState → Bool
  | .sawT1 | .expectT2 => true
  | _ => false

/-- Two states with the same Framer state, the same inputs to come, and the same contents of every register that R42 marks
for that Framer state. The other registers and all outputs may differ. -/
structure SameLive (s t : State) : Prop where
  st : s.st = t.st
  inputs : s.inputs = t.inputs
  ctrl : s.st.ctrlLive = true → s.ctrl = t.ctrl
  cmd : s.st.cmdLive = true → s.cmd = t.cmd
  len : s.st.lenLive = true → s.len = t.len
  rem : s.st.remLive = true → s.rem = t.rem
  cnt : s.st.bufLive = true → s.cnt = t.cnt
  buf : s.st.bufLive = true → ∀ k, k < s.cnt.toNat → Memory.read s.buf k = Memory.read t.buf k
  crc : s.st.crcLive = true → s.crc = t.crc

/-- The four output ports agree. -/
structure SameOutputs (s t : State) : Prop where
  ev : s.ev = t.ev
  diag : s.diag = t.diag
  txValid : s.txValid = t.txValid
  txFrame : s.txFrame = t.txFrame

/-! ### Frames -/

/-- Every RX register is unchanged, every byte of the buffer among them. -/
structure SameRegisters (s t : State) : Prop where
  st : t.st = s.st
  ctrl : t.ctrl = s.ctrl
  cmd : t.cmd = s.cmd
  len : t.len = s.len
  rem : t.rem = s.rem
  cnt : t.cnt = s.cnt
  buf : ∀ k, Memory.read t.buf k = Memory.read s.buf k
  crc : t.crc = s.crc

/-- Every RX register holds its reset value (10_state R53), every byte of the buffer among them. -/
structure Cleared (t : State) : Prop where
  st : t.st = .idle
  ctrl : t.ctrl = 0x00#8
  cmd : t.cmd = 0x00#8
  len : t.len = 0#16
  rem : t.rem = 0#16
  cnt : t.cnt = 0#6
  buf : ∀ k, Memory.read t.buf k = 0x00#8
  crc : t.crc = 0x00#8

end Sys2Proof.Machine
end

