-- ==== Sys2Proof/Certificates/Slice0/Obligations.lean ====
section
/-! DEFINITION. The statements for the provers. Bytes, lengths and frames are written out as the spec writes them. -/

namespace Sys2Proof.Claims

open Sys2Proof.Machine

/-- `n` steps of the machine. -/
def run (n : Nat) (s : State) : Host.Outcome State Fault Refusal := Host.Core.run Sys2Proof.core n s

/-- A list of bytes presented one a step, with no reset and no request. -/
def asBytes (bytes : List Byte) : List PortSample :=
  bytes.map fun b => ⟨false, true, b, false, 0#4, 0x00#8⟩

/-- A frame of request fields (30_encoding R101), the checksum written as the sum of the seven bytes before it. -/
def template (ctrl cmd v : Byte) : List Byte :=
  [0x53#8, 0x59#8, ctrl, cmd, 0x00#8, 0x01#8, v,
    BitVec.ofNat 8 (exactSum [0x53#8, 0x59#8, ctrl, cmd, 0x00#8, 0x01#8, v]), 0x54#8, 0x43#8]

end Sys2Proof.Claims

open Sys2Proof Sys2Proof.Machine Sys2Proof.Claims

/-! ### Reset and ports -/

/-- The state after reset satisfies the invariant. -/
def Obligations.ResetSatisfiesInvariant : Prop := RunInvariant State.reset

/-- 10_state R53 and 70_reset_and_hazards R360, R362: every RX register zero and `st` IDLE, at power-on and after a step with
`rst = 1`, which drops the byte of that step and outputs nothing. The values are the spec's own choice (R53, decision D3). -/
def Obligations.ResetClearsRxAndDropsTheByte : Prop :=
  (Cleared State.reset ∧ State.reset.ev = [] ∧ State.reset.diag = .none) ∧
  ∀ (s : State) (p : PortSample) (rest : List PortSample), s.inputs = p :: rest → p.rst = true →
    ∃ t, step s = .next t ∧ Cleared t ∧ t.ev = [] ∧ t.diag = .none ∧ t.inputs = rest

/-- 40_framer R160 (decision D2): steps without a byte change no RX register, however many there are, and output nothing. That the
samples are a list, one consumed a step, is the model's choice (log 2). -/
def Obligations.StalledTransportHoldsTheAttempt : Prop :=
  ∀ (s : State) (ps rest : List PortSample), s.inputs = ps ++ rest → (∀ p ∈ ps, p.rst = false ∧ p.rxValid = false) →
    ∃ t, run ps.length s = .next t ∧ SameRegisters s t ∧ t.inputs = rest ∧ (ps ≠ [] → t.ev = [] ∧ t.diag = .none)

/-- A step with a byte and no request is the RX step on that byte; the TX port then carries no frame (10_state R47 to R49, the
list of samples being the model's, log 2). -/
def Obligations.ByteStepIsTheRxStep : Prop :=
  ∀ (s t : State) (p : PortSample) (rest : List PortSample), s.inputs = p :: rest → p.rst = false → p.rxValid = true →
    p.txReqValid = false → rxStep p.rxByte { s with inputs := rest } = .next t →
    step s = .next { t with txValid := false, txFrame := [] }

/-- When the last byte of a frame arrives and the bytes that the registers hold decode to an instruction, the step runs that
instruction; a request of the same step is run after it (40_framer R152; log 2, log 6). -/
def Obligations.StepRunsTheDecodedFrame : Prop :=
  ∀ (s : State) (p : PortSample) (rest : List PortSample) (i : Instr), s.inputs = p :: rest → p.rst = false →
    p.rxValid = true → p.rxByte = 0x43#8 → s.st = .expectT2 → decodeFrame (heldFrame s) = .ok (i, []) →
    ∃ t, exec i { s with inputs := rest, ev := [], diag := .none } = .next t ∧
      (p.txReqValid = false → step s = .next { t with txValid := false, txFrame := [] }) ∧
      (∀ j, p.txReqValid = true → decodeRequest p.txReqKind p.txReqArg = .ok j → step s = exec j t)

/-- A step that presents a request and no byte runs the request's instruction, with the RX outputs empty (45_encoder R300;
log 2). -/
def Obligations.StepRunsTheDecodedRequest : Prop :=
  ∀ (s : State) (p : PortSample) (rest : List PortSample) (i : Instr), s.inputs = p :: rest → p.rst = false →
    p.rxValid = false → p.txReqValid = true → decodeRequest p.txReqKind p.txReqArg = .ok i →
    step s = exec i { s with inputs := rest, ev := [], diag := .none }

/-- 45_encoder R311 (decision D19): the request kinds 10 to 15 decode to no instruction and give no frame. -/
def Obligations.ReservedKindsSendNothing : Prop :=
  ∀ (s : State) (p : PortSample) (rest : List PortSample), s.inputs = p :: rest → p.rst = false → p.rxValid = false →
    p.txReqValid = true → 10 ≤ p.txReqKind.toNat →
    decodeRequest p.txReqKind p.txReqArg = .error (.reservedKind p.txReqKind) ∧
    step s = .next { s with inputs := rest, ev := [], diag := .none, txValid := false, txFrame := [] }

/-- 70_reset_and_hazards R371, R361 (decision D23): what RX leaves does not depend on the request of the step, and what TX leaves does
not depend on the RX state, the reset or the byte. -/
def Obligations.RxAndTxDoNotInteract : Prop :=
  (∀ (s t : State) (p q : PortSample) (rest : List PortSample), p.rst = q.rst → p.rxValid = q.rxValid →
    p.rxByte = q.rxByte → step { s with inputs := p :: rest } = .next t →
    ∃ u, step { s with inputs := q :: rest } = .next u ∧ u = { t with txValid := u.txValid, txFrame := u.txFrame }) ∧
  (∀ (s s' t t' : State) (p q : PortSample) (rest rest' : List PortSample), p.txReqValid = q.txReqValid →
    p.txReqKind = q.txReqKind → p.txReqArg = q.txReqArg → step { s with inputs := p :: rest } = .next t →
    step { s' with inputs := q :: rest' } = .next t' → t.txValid = t'.txValid ∧ t.txFrame = t'.txFrame)

/-- 70_reset_and_hazards R370, 60_exceptions R337 (decision D24): outputs last one step, and no step reads them. -/
def Obligations.OutputsLastOneStep : Prop :=
  ∀ (s : State) (ev : List Event) (d : Diag) (v : Bool) (f : List Byte),
    step { s with ev := ev, diag := d, txValid := v, txFrame := f } = step s

/-! ### The Framer's transitions (40_framer) -/

/-- R131: in IDLE, 0x53 is accepted as header1, and this is the only way out of IDLE. -/
def Obligations.IdleAcceptsHeader1 : Prop :=
  ∀ s : State, s.st = .idle → rxStep 0x53#8 s = .next { s with st := .sawH1, ev := [], diag := .none } ∧
    ∀ (b : Byte) (t : State), rxStep b s = .next t → t.st ≠ .idle → b = 0x53#8

/-- R132 and R149 (decisions D7, D4): any other byte in IDLE is discarded in silence, and a code of `st` that no run reaches
treats every byte as IDLE does. -/
def Obligations.OtherBytesAreHuntedSilently : Prop :=
  (∀ (s : State) (b : Byte), s.st = .idle → b ≠ 0x53#8 → rxStep b s = .next { s with ev := [], diag := .none }) ∧
  (∀ (s : State) (b : Byte), s.st.reachable = false → rxStep b s = rxStep b { s with st := .idle })

/-- 60_exceptions R346 (decision D7): noise between frames, however long, is silent: after any number of bytes other than 0x53,
no register has changed and nothing is reported. -/
def Obligations.NoiseBetweenFramesIsSilent : Prop :=
  ∀ (s : State) (noise : List Byte) (rest : List PortSample), s.st = .idle → s.inputs = asBytes noise ++ rest →
    (∀ b ∈ noise, b ≠ 0x53#8) →
    ∃ t, run noise.length s = .next t ∧ SameRegisters s t ∧ t.inputs = rest ∧
      (noise ≠ [] → t.ev = [] ∧ t.diag = .none)

/-- R133, R135, R136: header2 is accepted, and the control and command words are stored whatever their value. -/
def Obligations.HeaderAndKeyAreAccepted : Prop :=
  ∀ (s : State) (b : Byte),
    (s.st = .sawH1 → rxStep 0x59#8 s = .next { s with st := .afterH2, ev := [], diag := .none }) ∧
    (s.st = .afterH2 → rxStep b s = .next { s with ctrl := b, st := .readCtrl, ev := [], diag := .none }) ∧
    (s.st = .readCtrl → rxStep b s = .next { s with cmd := b, st := .readLenHi, ev := [], diag := .none })

/-- R137: a length-high byte of at most 4 sets `len` to 256 times it. -/
def Obligations.LengthHighIsScaled : Prop :=
  ∀ (s : State) (b : Byte), s.st = .readLenHi → b.toNat ≤ 4 →
    ∃ t, rxStep b s = .next t ∧ t.len.toNat = b.toNat * 256 ∧
      t = { s with len := t.len, st := .readLenLo, ev := [], diag := .none }

/-- R141: a length of 1 to 32 is accepted; `len` and `rem` hold it and the buffer is empty. -/
def Obligations.LengthIsAccepted : Prop :=
  ∀ (s : State) (b : Byte), s.st = .readLenLo → 1 ≤ s.len.toNat + b.toNat → s.len.toNat + b.toNat ≤ 32 →
    ∃ t, rxStep b s = .next t ∧ t.len.toNat = s.len.toNat + b.toNat ∧ t.rem.toNat = s.len.toNat + b.toNat ∧
      t = { s with len := t.len, rem := t.rem, cnt := 0#6, st := .readPayload, ev := [], diag := .none }

/-- R140 (the spec's own derivation): a length of 0 goes straight to the checksum byte. -/
def Obligations.EmptyPayloadSkipsToTheChecksum : Prop :=
  ∀ (s : State) (b : Byte), s.st = .readLenLo → s.len.toNat + b.toNat = 0 →
    rxStep b s = .next { s with len := 0#16, cnt := 0#6, st := .readCrc, ev := [], diag := .none }

/-- R142, R143: a payload byte is stored at `buf[cnt]` and nowhere else, `cnt` goes up and `rem` down by one; after the last
byte the checksum is next, before it another payload byte. -/
def Obligations.PayloadByteIsStoredAtCnt : Prop :=
  ∀ (s : State) (b : Byte), s.st = .readPayload → Memory.wf s.buf = true → s.cnt.toNat < 32 → 1 ≤ s.rem.toNat →
    ∃ t, rxStep b s = .next t ∧ (∀ k, k ≠ s.cnt.toNat → Memory.read t.buf k = Memory.read s.buf k) ∧
      Memory.read t.buf s.cnt.toNat = b ∧ t.cnt.toNat = s.cnt.toNat + 1 ∧ t.rem.toNat = s.rem.toNat - 1 ∧
      t.st = (if s.rem.toNat = 1 then .readCrc else .readPayload) ∧
      t = { s with buf := t.buf, cnt := t.cnt, rem := t.rem, st := t.st, ev := [], diag := .none }

/-- R144, R145: the checksum byte is stored without a test, and tail1 is accepted. -/
def Obligations.ChecksumByteAndTail1AreAccepted : Prop :=
  ∀ (s : State) (b : Byte),
    (s.st = .readCrc → rxStep b s = .next { s with crc := b, st := .sawT1, ev := [], diag := .none }) ∧
    (s.st = .sawT1 → rxStep 0x54#8 s = .next { s with st := .expectT2, ev := [], diag := .none })

/-- R134, R138, R139, R146, R148 with R150, R151 (which code a length error has is decision D8, and zeroing every register is
D5): a byte that fails a structural check aborts the attempt, whatever the byte is, 0x53 included: no event, the diagnostic,
and every register cleared; the TX ports and the inputs are left alone. -/
def Obligations.StructuralMismatchAborts : Prop :=
  ∀ (s : State) (b : Byte) (d : Diag),
    (s.st = .sawH1 ∧ b ≠ 0x59#8 ∧ d = .framingDesync) ∨ (s.st = .readLenHi ∧ 4 < b.toNat ∧ d = .framingDesync) ∨
    (s.st = .readLenLo ∧ 32 < s.len.toNat + b.toNat ∧ d = .payloadOutOfRange) ∨
    (s.st = .sawT1 ∧ b ≠ 0x54#8 ∧ d = .framingDesync) ∨ (s.st = .expectT2 ∧ b ≠ 0x43#8 ∧ d = .framingDesync) →
    ∃ t, rxStep b s = .next t ∧ Cleared t ∧ t.ev = [] ∧ t.diag = d ∧
      t.txValid = s.txValid ∧ t.txFrame = s.txFrame ∧ t.inputs = s.inputs

/-- R152 with 41_checksum_validator R172, R173: the last byte completes the frame. With a wrong checksum nothing is dispatched; with
the right one the step is the one well-formed instruction with the key in the registers and the payload in the buffer, which is
the one that the decoder gives for that key (R200; a row for "any other" word only where no row names the word). -/
def Obligations.CompletionValidatesThenDispatches : Prop :=
  ∀ s : State, s.st = .expectT2 → s.len.toNat ≤ 32 →
    (s.crc.toNat ≠ frameSum (heldFrame s) →
      ∃ t, rxStep 0x43#8 s = .next t ∧ Cleared t ∧ t.ev = [] ∧ t.diag = .checksumMismatch) ∧
    (s.crc.toNat = frameSum (heldFrame s) →
      ∃ payload i, payload = (List.range s.len.toNat).map (Memory.read s.buf) ∧ i = decodeKey s.ctrl s.cmd payload ∧
        i.parts = .frame s.ctrl s.cmd payload ∧ i.wellFormed = true ∧
        rxStep 0x43#8 s = exec i { s with ev := [], diag := .none })

/-- The model's own stop (20_memory R70, log 5): an access to a buffer byte above index 31, which does not exist. No run from reset
comes there. -/
def Obligations.AbsentBufferByteFaults : Prop :=
  ∀ (s : State) (b : Byte),
    (s.st = .readPayload → 32 ≤ s.cnt.toNat → rxStep b s = .fault .noSuchBufferByte) ∧
    (s.st = .expectT2 → 32 < s.len.toNat → rxStep 0x43#8 s = .fault .noSuchBufferByte)

/-! ### Diagnostics (60_exceptions) -/

/-- R331 (decision D8 on the length-high byte): FRAMING_DESYNC has exactly four causes, and comes with no event. -/
def Obligations.FramingDesyncHasFourCauses : Prop :=
  ∀ (s t : State) (b : Byte), rxStep b s = .next t →
    (t.diag = .framingDesync ↔
      (s.st = .sawH1 ∧ b ≠ 0x59#8) ∨ (s.st = .readLenHi ∧ 4 < b.toNat) ∨ (s.st = .sawT1 ∧ b ≠ 0x54#8) ∨
      (s.st = .expectT2 ∧ b ≠ 0x43#8)) ∧
    (t.diag = .framingDesync → t.ev = [])

/-- R332: CHECKSUM_MISMATCH has one cause, and comes with no event, not even `Unrecognized`. -/
def Obligations.ChecksumMismatchHasOneCause : Prop :=
  ∀ (s t : State) (b : Byte), rxStep b s = .next t →
    (t.diag = .checksumMismatch ↔ s.st = .expectT2 ∧ b = 0x43#8 ∧ s.crc.toNat ≠ frameSum (heldFrame s)) ∧
    (t.diag = .checksumMismatch → t.ev = [])

/-- R334: UNKNOWN_COMMAND is raised exactly by a valid frame whose key the source does not name; it comes with the one event
`Unrecognized` of that key, and it is the only diagnostic that comes with an event. -/
def Obligations.UnknownCommandIsReportedAsUnrecognized : Prop :=
  ∀ (s t : State) (b : Byte), rxStep b s = .next t →
    (t.diag = .unknownCommand ↔
      s.st = .expectT2 ∧ b = 0x43#8 ∧ s.crc.toNat = frameSum (heldFrame s) ∧ UnnamedKey s.ctrl s.cmd) ∧
    (t.diag = .unknownCommand → t.ev = [.unrecognized s.ctrl s.cmd]) ∧
    (t.diag ≠ .none → t.ev ≠ [] → t.diag = .unknownCommand)

/-- R336 (decision D5 on zeroing every register, D7 on the silent next byte): every condition ends with the Framer cleared, `st` IDLE
and every register zero, and nothing has stopped: the next byte is taken without a diagnostic, and starts a new hunt. -/
def Obligations.EveryConditionClearsTheFramer : Prop :=
  ∀ (s t : State) (b : Byte), rxStep b s = .next t → t.diag ≠ .none →
    Cleared t ∧ ∀ c : Byte, ∃ u, rxStep c t = .next u ∧ u.diag = .none ∧ (u.st = .sawH1 ↔ c = 0x53#8)

/-- 70_reset_and_hazards R373 (decision D29): events appear in the step of the last byte of a frame with the right checksum, and in no
other step. -/
def Obligations.EventsOnlyAtTheLastByte : Prop :=
  ∀ (s t : State) (b : Byte), rxStep b s = .next t → t.ev ≠ [] →
    s.st = .expectT2 ∧ b = 0x43#8 ∧ s.crc.toNat = frameSum (heldFrame s)

/-! ### Inbound instructions (42_dispatcher): each completes in every state -/

/-- R205 to R207, R203: the system keys and the global row. -/
def Obligations.SystemAndUnknownKeys : Prop :=
  ∀ (s : State) (ctrl cmd : Byte) (payload : List Byte),
    Answers 0x01 0x01 (.rx0101Heartbeat payload) s [.heartbeat] .none ∧
    Answers 0x01 0x02 (.rx0102ResetAck payload) s [] .resetAck ∧
    Answers 0x01 cmd (.rx01XXUnknown cmd payload) s [.unrecognized 0x01#8 cmd] .unknownCommand ∧
    Answers ctrl cmd (.rxXXXXUnknown ctrl cmd payload) s [.unrecognized ctrl cmd] .unknownCommand

/-- R204, R208 to R212 (decision D16 on the empty text and on bytes 0x00; 90_conflicts C4, C5): the product-information keys. A text
shorter than TEXT_BOUND is delivered whole; a longer one is not delivered at all. TEXT_BOUND is OPEN (log 1). -/
def Obligations.ProductTextKeys : Prop :=
  ∀ (s : State) (cmd : Byte) (payload : List Byte),
    (payload.length < Config.textBound →
      Answers 0x02 0xA1 (.rx02A1ProductModel payload) s [.productModel payload] .none ∧
      Answers 0x02 0xA2 (.rx02A2ProductId payload) s [.productId payload] .none ∧
      Answers 0x02 0xA3 (.rx02A3HardwareModel payload) s [.hardwareModel payload] .none ∧
      Answers 0x02 0xA4 (.rx02A4FirmwareVersion payload) s [.firmwareVersion payload] .none) ∧
    (Config.textBound ≤ payload.length →
      Answers 0x02 0xA1 (.rx02A1ProductModel payload) s [] .payloadOutOfRange ∧
      Answers 0x02 0xA2 (.rx02A2ProductId payload) s [] .payloadOutOfRange ∧
      Answers 0x02 0xA3 (.rx02A3HardwareModel payload) s [] .payloadOutOfRange ∧
      Answers 0x02 0xA4 (.rx02A4FirmwareVersion payload) s [] .payloadOutOfRange) ∧
    Answers 0x02 cmd (.rx02XXUnknown cmd payload) s [.unrecognized 0x02#8 cmd] .unknownCommand

/-- R213, R214, R216 to R221: the work-status keys other than the scene mode. -/
def Obligations.WorkStatusKeys : Prop :=
  ∀ (s : State) (cmd : Byte) (payload : List Byte),
    Answers 0x05 0x01 (.rx0501InitStatus payload) s [] .initStatus ∧
    Answers 0x05 0x81 (.rx0581InitStatus payload) s [] .initStatus ∧
    Answers 0x05 0x07 (.rx0507Inert payload) s [] .inertCommand ∧
    Answers 0x05 0x08 (.rx0508Inert payload) s [] .inertCommand ∧
    Answers 0x05 0x09 (.rx0509Inert payload) s [] .inertCommand ∧
    Answers 0x05 0x88 (.rx0588Inert payload) s [] .inertCommand ∧
    Answers 0x05 0x89 (.rx0589Inert payload) s [] .inertCommand ∧
    Answers 0x05 cmd (.rx05XXUnknown cmd payload) s [.unrecognized 0x05#8 cmd] .unknownCommand

/-- R215 (decision D17 on byte 0): a scene byte in 1..SCENE_COUNT gives the index one below it; byte 0, a byte above SCENE_COUNT
and an empty payload give no event. Bytes after the first are ignored. SCENE_COUNT is OPEN (log 1), so both cases stand in one
conclusion. -/
def Obligations.SceneModeKey : Prop :=
  ∀ (s : State) (p : Byte) (more : List Byte),
    Answers 0x05 0x87 (.rx0587SceneMode (p :: more)) s
      (if 1 ≤ p.toNat ∧ p.toNat ≤ Config.sceneCount.toNat then [.sceneMode (BitVec.ofNat 8 (p.toNat - 1))] else [])
      (if 1 ≤ p.toNat ∧ p.toNat ≤ Config.sceneCount.toNat then .none else .payloadOutOfRange) ∧
    Answers 0x05 0x87 (.rx0587SceneMode []) s [] .payloadOutOfRange

/-- R222, R223, R248 (decision D13 on the empty payload): the output switch is on for every byte but 0x00. -/
def Obligations.OutputSwitchKeys : Prop :=
  ∀ (s : State) (p cmd : Byte) (more payload : List Byte),
    (p ≠ 0x00#8 → Answers 0x08 0x00 (.rx0800OutputSwitch (p :: more)) s [.outputSwitch true] .none ∧
      Answers 0x08 0x80 (.rx0880OutputSwitch (p :: more)) s [.outputSwitch true] .none) ∧
    (p = 0x00#8 → Answers 0x08 0x00 (.rx0800OutputSwitch (p :: more)) s [.outputSwitch false] .none ∧
      Answers 0x08 0x80 (.rx0880OutputSwitch (p :: more)) s [.outputSwitch false] .none) ∧
    Answers 0x08 0x00 (.rx0800OutputSwitch []) s [] .payloadOutOfRange ∧
    Answers 0x08 0x80 (.rx0880OutputSwitch []) s [] .payloadOutOfRange ∧
    Answers 0x08 cmd (.rx08XXUnknown cmd payload) s [.unrecognized 0x08#8 cmd] .unknownCommand

/-- R224 (decisions D11, D14): five events in the listed order from the first five bytes, the speed signed; a shorter payload gives
no event at all. -/
def Obligations.PackedFieldsKey : Prop :=
  ∀ (s : State) (p0 p1 p2 p3 p4 : Byte) (more payload : List Byte),
    Answers 0x08 0x01 (.rx0801PackedFields (p0 :: p1 :: p2 :: p3 :: p4 :: more)) s
      [.spatialStaticValue p0, .presenceDetectionDistance p1, .spatialMotionValue p2, .motionDistance p3,
        .motionSpeed ((p4.toNat : Int) - 10)] .none ∧
    (payload.length < 5 → Answers 0x08 0x01 (.rx0801PackedFields payload) s [] .payloadOutOfRange)

/-- R225 to R229 (decisions D11, D14): the five fields one by one; every byte is valid, and an empty payload gives no event. -/
def Obligations.SingleFieldKeys : Prop :=
  ∀ (s : State) (p : Byte) (more : List Byte),
    Answers 0x08 0x81 (.rx0881StaticValue (p :: more)) s [.spatialStaticValue p] .none ∧
    Answers 0x08 0x82 (.rx0882DetectionDistance (p :: more)) s [.presenceDetectionDistance p] .none ∧
    Answers 0x08 0x83 (.rx0883MotionValue (p :: more)) s [.spatialMotionValue p] .none ∧
    Answers 0x08 0x84 (.rx0884MotionDistance (p :: more)) s [.motionDistance p] .none ∧
    Answers 0x08 0x85 (.rx0885MotionSpeed (p :: more)) s [.motionSpeed ((p.toNat : Int) - 10)] .none ∧
    Answers 0x08 0x81 (.rx0881StaticValue []) s [] .payloadOutOfRange ∧
    Answers 0x08 0x82 (.rx0882DetectionDistance []) s [] .payloadOutOfRange ∧
    Answers 0x08 0x83 (.rx0883MotionValue []) s [] .payloadOutOfRange ∧
    Answers 0x08 0x84 (.rx0884MotionDistance []) s [] .payloadOutOfRange ∧
    Answers 0x08 0x85 (.rx0885MotionSpeed []) s [] .payloadOutOfRange

/-- R232, R233, R253, R254 (decision D15 on the byte read, D13 on the empty payload): the movement signs are the first byte, whatever
it is; an empty payload gives no event. -/
def Obligations.MovementSignsKeys : Prop :=
  ∀ (s : State) (p : Byte) (more : List Byte),
    Answers 0x08 0x07 (.rx0807MovementSigns (p :: more)) s [.movementSigns p] .none ∧
    Answers 0x08 0x87 (.rx0887MovementSigns (p :: more)) s [.movementSigns p] .none ∧
    Answers 0x80 0x03 (.rx8003MovementSigns (p :: more)) s [.movementSigns p] .none ∧
    Answers 0x80 0x83 (.rx8083MovementSigns (p :: more)) s [.movementSigns p] .none ∧
    Answers 0x08 0x07 (.rx0807MovementSigns []) s [] .payloadOutOfRange ∧
    Answers 0x08 0x87 (.rx0887MovementSigns []) s [] .payloadOutOfRange ∧
    Answers 0x80 0x03 (.rx8003MovementSigns []) s [] .payloadOutOfRange ∧
    Answers 0x80 0x83 (.rx8083MovementSigns []) s [] .payloadOutOfRange

/-- R230, R231, R249 to R252, R255, R256 with the tables of R202 (decisions D12 on their order, D13 on the empty payload): a byte
inside the table gives its entry, and an empty payload gives no event. -/
def Obligations.TableLookupKeys : Prop :=
  ∀ (s : State) (more : List Byte),
    (∀ x ∈ [(0x00#8, KeepAway.none), (0x01#8, .closeTo), (0x02#8, .farAway)],
      Answers 0x08 0x06 (.rx0806KeepAway (x.1 :: more)) s [.keepAwayState x.2] .none ∧
      Answers 0x08 0x86 (.rx0886KeepAway (x.1 :: more)) s [.keepAwayState x.2] .none ∧
      Answers 0x80 0x0B (.rx800BKeepAway (x.1 :: more)) s [.keepAwayState x.2] .none ∧
      Answers 0x80 0x8B (.rx808BKeepAway (x.1 :: more)) s [.keepAwayState x.2] .none) ∧
    (∀ x ∈ [(0x00#8, Motion.none), (0x01#8, .still), (0x02#8, .active)],
      Answers 0x80 0x02 (.rx8002MotionStatus (x.1 :: more)) s [.motionStatus x.2] .none ∧
      Answers 0x80 0x82 (.rx8082MotionStatus (x.1 :: more)) s [.motionStatus x.2] .none) ∧
    (∀ x ∈ [(0x00#8, false), (0x01#8, true)],
      Answers 0x80 0x01 (.rx8001HumanPresence (x.1 :: more)) s [.humanPresence x.2] .none ∧
      Answers 0x80 0x81 (.rx8081HumanPresence (x.1 :: more)) s [.humanPresence x.2] .none) ∧
    Answers 0x08 0x06 (.rx0806KeepAway []) s [] .payloadOutOfRange ∧
    Answers 0x08 0x86 (.rx0886KeepAway []) s [] .payloadOutOfRange ∧
    Answers 0x80 0x0B (.rx800BKeepAway []) s [] .payloadOutOfRange ∧
    Answers 0x80 0x8B (.rx808BKeepAway []) s [] .payloadOutOfRange ∧
    Answers 0x80 0x02 (.rx8002MotionStatus []) s [] .payloadOutOfRange ∧
    Answers 0x80 0x82 (.rx8082MotionStatus []) s [] .payloadOutOfRange ∧
    Answers 0x80 0x01 (.rx8001HumanPresence []) s [] .payloadOutOfRange ∧
    Answers 0x80 0x81 (.rx8081HumanPresence []) s [] .payloadOutOfRange

/-- R260, with decision D17 (R215) that scene byte 0 is out of range: an index outside its enumeration gives no event and
PAYLOAD_OUT_OF_RANGE, never a default value. SCENE_COUNT is OPEN (log 1). -/
def Obligations.OutOfRangeIndexGivesNoEvent : Prop :=
  ∀ (s : State) (p : Byte) (more : List Byte),
    (3 ≤ p.toNat →
      Answers 0x08 0x06 (.rx0806KeepAway (p :: more)) s [] .payloadOutOfRange ∧
      Answers 0x08 0x86 (.rx0886KeepAway (p :: more)) s [] .payloadOutOfRange ∧
      Answers 0x80 0x0B (.rx800BKeepAway (p :: more)) s [] .payloadOutOfRange ∧
      Answers 0x80 0x8B (.rx808BKeepAway (p :: more)) s [] .payloadOutOfRange ∧
      Answers 0x80 0x02 (.rx8002MotionStatus (p :: more)) s [] .payloadOutOfRange ∧
      Answers 0x80 0x82 (.rx8082MotionStatus (p :: more)) s [] .payloadOutOfRange) ∧
    (2 ≤ p.toNat →
      Answers 0x80 0x01 (.rx8001HumanPresence (p :: more)) s [] .payloadOutOfRange ∧
      Answers 0x80 0x81 (.rx8081HumanPresence (p :: more)) s [] .payloadOutOfRange) ∧
    (p.toNat = 0 ∨ Config.sceneCount.toNat < p.toNat →
      Answers 0x05 0x87 (.rx0587SceneMode (p :: more)) s [] .payloadOutOfRange)

/-- R234 to R240: the parameter words 08 to 0E give no event, whatever the payload. -/
def Obligations.LowParameterWordsAreInert : Prop :=
  ∀ (s : State) (payload : List Byte),
    Answers 0x08 0x08 (.rx0808Inert payload) s [] .inertCommand ∧
    Answers 0x08 0x09 (.rx0809Inert payload) s [] .inertCommand ∧
    Answers 0x08 0x0A (.rx080AInert payload) s [] .inertCommand ∧
    Answers 0x08 0x0B (.rx080BInert payload) s [] .inertCommand ∧
    Answers 0x08 0x0C (.rx080CInert payload) s [] .inertCommand ∧
    Answers 0x08 0x0D (.rx080DInert payload) s [] .inertCommand ∧
    Answers 0x08 0x0E (.rx080EInert payload) s [] .inertCommand

/-- R241 to R247: the parameter words 88 to 8E give no event, whatever the payload. -/
def Obligations.MirrorParameterWordsAreInert : Prop :=
  ∀ (s : State) (payload : List Byte),
    Answers 0x08 0x88 (.rx0888Inert payload) s [] .inertCommand ∧
    Answers 0x08 0x89 (.rx0889Inert payload) s [] .inertCommand ∧
    Answers 0x08 0x8A (.rx088AInert payload) s [] .inertCommand ∧
    Answers 0x08 0x8B (.rx088BInert payload) s [] .inertCommand ∧
    Answers 0x08 0x8C (.rx088CInert payload) s [] .inertCommand ∧
    Answers 0x08 0x8D (.rx088DInert payload) s [] .inertCommand ∧
    Answers 0x08 0x8E (.rx088EInert payload) s [] .inertCommand

/-- R257 to R259: the unmanned-duration words give no event, and every other word under 80 is reported as unknown. -/
def Obligations.PresenceInertAndUnknownKeys : Prop :=
  ∀ (s : State) (cmd : Byte) (payload : List Byte),
    Answers 0x80 0x0A (.rx800AInert payload) s [] .inertCommand ∧
    Answers 0x80 0x8A (.rx808AInert payload) s [] .inertCommand ∧
    Answers 0x80 cmd (.rx80XXUnknown cmd payload) s [.unrecognized 0x80#8 cmd] .unknownCommand

/-- The frame of every inbound instruction (40_framer R152, R151): every RX register is cleared, every byte of the buffer among
them; the TX ports and the inputs are unchanged. What comes out does not depend on the state, so no earlier frame changes how a
later one is decoded (42_dispatcher R261, the spec's own derivation). -/
def Obligations.InboundInstructionFrame : Prop :=
  ∀ (i : Instr) (s s' : State), i.isInbound = true →
    ∃ t t', exec i s = .next t ∧ exec i s' = .next t' ∧ t.ev = t'.ev ∧ t.diag = t'.diag ∧
      Cleared t ∧ t.txValid = s.txValid ∧ t.txFrame = s.txFrame ∧ t.inputs = s.inputs

/-- R262 (the spec's own derivation), with the field types of 10_state R51: the result of every frame has one of four shapes. -/
def Obligations.DispatchResultsHaveFourShapes : Prop :=
  ∀ (i : Instr) (s t : State), i.isInbound = true → i.wellFormed = true → exec i s = .next t →
    DispatchShape t.ev t.diag

/-! ### Outbound instructions (45_encoder): each completes in every state -/

/-- R301 to R308 (decision D19 on the numbers of the kinds): the heartbeat and the queries send their template with payload byte 0x0F,
whatever the argument. -/
def Obligations.HeartbeatAndQueriesSendTheirTemplate : Prop :=
  ∀ (s : State) (arg : Byte),
    Sends 0 (.txHeartbeat arg) s
      [0x53#8, 0x59#8, 0x01#8, 0x01#8, 0x00#8, 0x01#8, 0x0F#8, 0xBE#8, 0x54#8, 0x43#8] ∧
    Sends 1 (.txQueryOutputSwitch arg) s
      [0x53#8, 0x59#8, 0x08#8, 0x80#8, 0x00#8, 0x01#8, 0x0F#8, 0x44#8, 0x54#8, 0x43#8] ∧
    Sends 2 (.txQueryProductMode arg) s
      [0x53#8, 0x59#8, 0x02#8, 0xA1#8, 0x00#8, 0x01#8, 0x0F#8, 0x5F#8, 0x54#8, 0x43#8] ∧
    Sends 3 (.txQueryProductId arg) s
      [0x53#8, 0x59#8, 0x02#8, 0xA2#8, 0x00#8, 0x01#8, 0x0F#8, 0x60#8, 0x54#8, 0x43#8] ∧
    Sends 4 (.txQueryHardwareModel arg) s
      [0x53#8, 0x59#8, 0x02#8, 0xA3#8, 0x00#8, 0x01#8, 0x0F#8, 0x61#8, 0x54#8, 0x43#8] ∧
    Sends 5 (.txQueryFirmwareVersion arg) s
      [0x53#8, 0x59#8, 0x02#8, 0xA4#8, 0x00#8, 0x01#8, 0x0F#8, 0x62#8, 0x54#8, 0x43#8] ∧
    Sends 6 (.txQueryHumanStatus arg) s
      [0x53#8, 0x59#8, 0x80#8, 0x81#8, 0x00#8, 0x01#8, 0x0F#8, 0xBD#8, 0x54#8, 0x43#8] ∧
    Sends 7 (.txQueryKeepAway arg) s
      [0x53#8, 0x59#8, 0x80#8, 0x8B#8, 0x00#8, 0x01#8, 0x0F#8, 0xC7#8, 0x54#8, 0x43#8]

/-- R309 (decision D20 on the argument): bit 0 of the argument says on or off, and no other bit matters. -/
def Obligations.SetOutputSwitchReadsBitZero : Prop :=
  ∀ (s : State) (arg : Byte),
    (arg.toNat % 2 = 1 → Sends 8 (.txSetOutputSwitch arg) s
      [0x53#8, 0x59#8, 0x08#8, 0x00#8, 0x00#8, 0x01#8, 0x01#8, 0xB6#8, 0x54#8, 0x43#8]) ∧
    (arg.toNat % 2 = 0 → Sends 8 (.txSetOutputSwitch arg) s
      [0x53#8, 0x59#8, 0x08#8, 0x00#8, 0x00#8, 0x01#8, 0x00#8, 0xB5#8, 0x54#8, 0x43#8])

/-- R310 (decision D21 on the argument): the code at the index is sent; an index outside SCENE_CODES (read here as code 0x00) and
a code 0x00 send nothing. SCENE_CODES is OPEN (log 1), so both cases stand in one conclusion. -/
def Obligations.SetSceneModeSendsTheCode : Prop :=
  ∀ (s : State) (arg code : Byte), code = Config.sceneCodes.getD arg.toNat 0x00#8 →
    HasKind (.txSetSceneMode arg) 9 ∧ exec (.txSetSceneMode arg) s = .next
      (if code = 0x00#8 then { s with txValid := false, txFrame := [] }
      else { s with
        txValid := true
        txFrame := [0x53#8, 0x59#8, 0x05#8, 0x07#8, 0x00#8, 0x01#8, code, BitVec.ofNat 8 (0xB9 + code.toNat), 0x54#8,
          0x43#8] })

/-- 30_encoding R101, R102: every frame a request gives has the ten bytes of the template, with byte 7 the sum of the seven before it. -/
def Obligations.OutboundFramesCarryTheirChecksum : Prop :=
  ∀ (i : Instr) (s t : State), i.isInbound = false → exec i s = .next t → t.txValid = true →
    ∃ ctrl cmd v, t.txFrame = template ctrl cmd v

/-- The frame of every request (45_encoder R312): only the TX ports change, and what they carry does not depend on the state. -/
def Obligations.RequestInstructionFrame : Prop :=
  ∀ (i : Instr) (s s' : State), i.isInbound = false →
    ∃ t t', exec i s = .next t ∧ exec i s' = .next t' ∧ SameRegisters s t ∧ t.ev = s.ev ∧ t.diag = s.diag ∧
      t.inputs = s.inputs ∧ t.txValid = t'.txValid ∧ t.txFrame = t'.txFrame ∧
      t.txFrame.length = (if t.txValid then 10 else 0)

/-! ### Checksum (41_checksum_validator) -/

/-- R170: the checksum of at least three bytes is the sum of all but the last three, modulo 256. -/
def Obligations.ChecksumIsTheTruncatedSum : Prop :=
  ∀ (bytes : List Byte) (x y z : Byte),
    (checksum (bytes ++ [x, y, z])).toNat = exactSum bytes % 256 ∧
    (validFrame (bytes ++ [x, y, z]) = true ↔ x.toNat = exactSum bytes % 256)

/-- R175 (the spec's own derivation): changing one byte that the checksum covers always changes the checksum, so a valid frame with one such
byte changed is not valid. -/
def Obligations.OneChangedByteIsDetected : Prop :=
  ∀ (frame : List Byte) (k : Nat) (b : Byte), k + 3 < frame.length → frame[k]? ≠ some b →
    checksum (frame.set k b) ≠ checksum frame ∧ (validFrame frame = true → validFrame (frame.set k b) = false)

/-! ### Encoding -/

/-- Decode and encode agree on every well-formed instruction, with any payload of up to 32 bytes and any argument; the bytes after a
frame are left over (30_encoding R90 to R96, R103). -/
def Obligations.DecodeOfEncode : Prop :=
  ∀ i : Instr, i.wellFormed = true →
    decode (encode i) = .ok i ∧
    ∀ (bytes rest : List Byte), encode i = .frame bytes → decodeFrame (bytes ++ rest) = .ok (i, rest)

/-- Every input that decodes is the encoding of the well-formed instruction it decodes to: no bit of a frame or a request is dropped. -/
def Obligations.EncodeOfDecode : Prop :=
  (∀ (bytes rest : List Byte) (i : Instr), decodeFrame bytes = .ok (i, rest) →
    i.wellFormed = true ∧ ∃ frame, encode i = .frame frame ∧ bytes = frame ++ rest) ∧
  (∀ (kind : BitVec 4) (arg : Byte) (i : Instr), decodeRequest kind arg = .ok i →
    i.wellFormed = true ∧ encode i = .request kind arg)

/-- 30_encoding R91, R92, 40_framer R157 (the spec's own derivation): a frame that decodes has a length-high byte of 0 and between 9
and 41 bytes, nine more than its length byte says. -/
def Obligations.DecodedFramesHaveStructuralLength : Prop :=
  ∀ (bytes rest : List Byte) (i : Instr), decodeFrame bytes = .ok (i, rest) →
    bytes[4]? = some 0x00#8 ∧
    ∃ lenLo : Byte, bytes[5]? = some lenLo ∧ lenLo.toNat ≤ 32 ∧ bytes.length = 9 + lenLo.toNat + rest.length

/-- A few words of the spec decode to the instructions they stand for: the frames of 42_dispatcher R222, R224, R203 and of source
scenario 1, and the words of opcode_table.json for the keys 01/01 and 80/8B and for the request kinds 3 and 8. That a bare key of the table stands
for a frame with an empty payload, and a bare kind for a request with argument 0, is the model's choice (log 7). -/
def Obligations.SpecWordsDecode : Prop :=
  decodeFrame [0x53#8, 0x59#8, 0x08#8, 0x00#8, 0x00#8, 0x01#8, 0x01#8, 0xB6#8, 0x54#8, 0x43#8] =
    .ok (.rx0800OutputSwitch [0x01#8], []) ∧
  decodeFrame [0x53#8, 0x59#8, 0x08#8, 0x01#8, 0x00#8, 0x05#8, 0x20#8, 0x06#8, 0x31#8, 0x04#8, 0x0C#8, 0x21#8, 0x54#8, 0x43#8] =
    .ok (.rx0801PackedFields [0x20#8, 0x06#8, 0x31#8, 0x04#8, 0x0C#8], []) ∧
  decodeFrame [0x53#8, 0x59#8, 0x53#8, 0x59#8, 0x00#8, 0x00#8, 0x58#8, 0x54#8, 0x43#8] =
    .ok (.rxXXXXUnknown 0x53#8 0x59#8 [], []) ∧
  decodeFrame [0x53#8, 0x59#8, 0x02#8, 0xA1#8, 0x00#8, 0x03#8, 0x41#8, 0x42#8, 0x43#8, 0x18#8, 0x54#8, 0x43#8] =
    .ok (.rx02A1ProductModel [0x41#8, 0x42#8, 0x43#8], []) ∧
  decodeTableWord 16 0x0101 = some (.rx0101Heartbeat []) ∧
  decodeTableWord 16 0x808B = some (.rx808BKeepAway []) ∧
  decodeTableWord 8 0x3 = some (.txQueryProductId 0x00#8) ∧
  decodeTableWord 8 0x8 = some (.txSetOutputSwitch 0x00#8)

/-! ### Output codes -/

/-- 30_encoding R104 (decision D9): tag and fields of every event on the bus; every field that a tag does not list is zero, and so is
every text byte after the text. -/
def Obligations.EventRecords : Prop :=
  (∀ (mk : List Byte → Event) (tag : BitVec 5) (text : List Byte),
    (mk, tag) ∈ [(Event.productModel, 1#5), (Event.productId, 2#5), (Event.hardwareModel, 3#5),
      (Event.firmwareVersion, 4#5)] → text.length ≤ 32 →
    (mk text).record.tag = tag ∧ (mk text).record.a = 0x00#8 ∧ (mk text).record.b = 0x00#8 ∧
    (mk text).record.half = 0#16 ∧ (mk text).record.textLen.toNat = text.length ∧
    (mk text).record.text.length = 32 ∧
    ∀ k, k < 32 → (mk text).record.text[k]? = some (text.getD k 0x00#8)) ∧
  (∀ (e : Event) (tag : BitVec 5) (a b : Byte) (half : Int),
    (e = .heartbeat ∧ tag = 0#5 ∧ a = 0x00#8 ∧ b = 0x00#8 ∧ half = 0) ∨
    (e = .outputSwitch true ∧ tag = 5#5 ∧ a = 0x01#8 ∧ b = 0x00#8 ∧ half = 0) ∨
    (e = .outputSwitch false ∧ tag = 5#5 ∧ a = 0x00#8 ∧ b = 0x00#8 ∧ half = 0) ∨
    (e = .spatialStaticValue a ∧ tag = 6#5 ∧ b = 0x00#8 ∧ half = 0) ∨
    ((∃ h : Byte, e = .presenceDetectionDistance h ∧ half = h.toNat) ∧ tag = 7#5 ∧ a = 0x00#8 ∧ b = 0x00#8) ∨
    (e = .spatialMotionValue a ∧ tag = 8#5 ∧ b = 0x00#8 ∧ half = 0) ∨
    ((∃ h : Byte, e = .motionDistance h ∧ half = h.toNat) ∧ tag = 9#5 ∧ a = 0x00#8 ∧ b = 0x00#8) ∨
    (e = .motionSpeed half ∧ -10 ≤ half ∧ half ≤ 245 ∧ tag = 10#5 ∧ a = 0x00#8 ∧ b = 0x00#8) ∨
    (e = .keepAwayState .none ∧ tag = 11#5 ∧ a = 0x00#8 ∧ b = 0x00#8 ∧ half = 0) ∨
    (e = .keepAwayState .closeTo ∧ tag = 11#5 ∧ a = 0x01#8 ∧ b = 0x00#8 ∧ half = 0) ∨
    (e = .keepAwayState .farAway ∧ tag = 11#5 ∧ a = 0x02#8 ∧ b = 0x00#8 ∧ half = 0) ∨
    (e = .movementSigns a ∧ tag = 12#5 ∧ b = 0x00#8 ∧ half = 0) ∨
    (e = .sceneMode a ∧ tag = 13#5 ∧ b = 0x00#8 ∧ half = 0) ∨
    (e = .humanPresence true ∧ tag = 14#5 ∧ a = 0x01#8 ∧ b = 0x00#8 ∧ half = 0) ∨
    (e = .humanPresence false ∧ tag = 14#5 ∧ a = 0x00#8 ∧ b = 0x00#8 ∧ half = 0) ∨
    (e = .motionStatus .none ∧ tag = 15#5 ∧ a = 0x00#8 ∧ b = 0x00#8 ∧ half = 0) ∨
    (e = .motionStatus .still ∧ tag = 15#5 ∧ a = 0x01#8 ∧ b = 0x00#8 ∧ half = 0) ∨
    (e = .motionStatus .active ∧ tag = 15#5 ∧ a = 0x02#8 ∧ b = 0x00#8 ∧ half = 0) ∨
    (e = .unrecognized a b ∧ tag = 16#5 ∧ half = 0) →
    e.record.tag = tag ∧ e.record.a = a ∧ e.record.b = b ∧ e.record.half.toInt = half ∧
    e.record.textLen = 0#6 ∧ e.record.text = List.replicate 32 0x00#8)

/-- 30_encoding R105 and 10_state R31 (decisions D6, D4): the diagnostic codes 0 to 7 and the state codes 0 to 10, and every code stands
for one diagnostic or one contents of `st`. -/
def Obligations.StatusCodes : Prop :=
  ([Diag.none, .framingDesync, .checksumMismatch, .payloadOutOfRange, .unknownCommand, .resetAck, .initStatus,
    .inertCommand].map (fun d => d.code.toNat) = List.range 8) ∧
  ([FramerState.idle, .sawH1, .afterH2, .readCtrl, .readCmd, .readLenHi, .readLenLo, .readPayload, .readCrc, .sawT1,
    .expectT2].map (fun st => st.code.toNat) = List.range 11) ∧
  (∀ c : BitVec 3, (diagOfCode c).code = c) ∧ (∀ d : Diag, diagOfCode d.code = d) ∧
  (∀ c : BitVec 4, (framerStateOfCode c).code = c) ∧ (∀ st : FramerState, framerStateOfCode st.code = st)

/-! ### The whole machine -/

/-- Every step keeps the invariant: the register relations of 10_state R36 to R38, the reachable codes (R33), the canonical buffer and
the shape of the outputs. -/
def Obligations.EveryStepKeepsTheInvariant : Prop :=
  ∀ s t : State, RunInvariant s → step s = .next t → RunInvariant t

/-- 40_framer R159, 93_implementation_defined I20 (the spec's own derivation): no sequence of inputs stops the block: from every state that
satisfies the invariant, with any inputs to come, any number of steps completes. -/
def Obligations.NoInputStopsTheBlock : Prop :=
  ∀ (s : State) (inputs : List PortSample) (n : Nat), RunInvariant s → ∃ t, run n { s with inputs := inputs } = .next t

/-- 40_framer R158 (the spec's own derivation): once an attempt has started, at most 40 more bytes lead back to IDLE, whatever they
are. -/
def Obligations.AttemptsEndWithin41Bytes : Prop :=
  ∀ (s : State) (bytes : List Byte) (rest : List PortSample), RunInvariant s → s.st ≠ .idle → bytes.length = 40 →
    s.inputs = asBytes bytes ++ rest → ∃ n t, 1 ≤ n ∧ n ≤ 40 ∧ run n s = .next t ∧ t.st = .idle

/-- The byte-serial Framer and the decoder of whole frames agree (40_framer R130, R147): feeding the bytes of any well-formed frame to
the machine from IDLE, one a step, leaves the state that the frame's instruction leaves. -/
def Obligations.FrameBytesRunTheirInstruction : Prop :=
  ∀ (i : Instr) (s : State) (frame : List Byte) (rest : List PortSample), i.isInbound = true → i.wellFormed = true →
    encode i = .frame frame → s.st = .idle → Memory.wf s.buf = true → s.inputs = asBytes frame ++ rest →
    ∃ t, exec i s = .next t ∧ run frame.length s = .next { t with inputs := rest, txValid := false, txFrame := [] }

/-- 45_encoder R313 (the spec's own derivation): every frame that a request gives, fed back to the RX agent from IDLE, passes the
Framer and the validator and gives the listed result; the last clause takes the frame of a scene request with any code. -/
def Obligations.LoopbackRoundTrip : Prop :=
  ∀ (u : State) (rest : List PortSample), u.st = .idle → Memory.wf u.buf = true →
    (∀ (arg : Byte) (i : Instr) (ev : List Event) (d : Diag) (s t : State),
      (i, ev, d) ∈ [
        (Instr.txHeartbeat arg, [Event.heartbeat], Diag.none),
        (.txQueryOutputSwitch arg, [.outputSwitch true], .none),
        (.txQueryProductMode arg, [.productModel [0x0F#8]], .none),
        (.txQueryProductId arg, [.productId [0x0F#8]], .none),
        (.txQueryHardwareModel arg, [.hardwareModel [0x0F#8]], .none),
        (.txQueryFirmwareVersion arg, [.firmwareVersion [0x0F#8]], .none),
        (.txQueryHumanStatus arg, [], .payloadOutOfRange),
        (.txQueryKeepAway arg, [], .payloadOutOfRange),
        (.txSetOutputSwitch arg, [.outputSwitch (arg.getLsbD 0)], .none)] →
      exec i s = .next t → u.inputs = asBytes t.txFrame ++ rest →
      ∃ w, run 10 u = .next w ∧ w.ev = ev ∧ w.diag = d ∧ Cleared w ∧ w.inputs = rest) ∧
    (∀ code : Byte, u.inputs = asBytes (template 0x05#8 0x07#8 code) ++ rest →
      ∃ w, run 10 u = .next w ∧ w.ev = [] ∧ w.diag = .inertCommand ∧ Cleared w ∧ w.inputs = rest)

/-- 10_state R42, R54 and 20_memory R72 (the spec's own derivation): a register that R42 does not mark for the Framer state, and a buffer byte
that the frame did not write, can never be observed: two states that agree on the marked ones give the same outputs at every
later step. -/
def Obligations.UnmarkedRegistersAreUnobservable : Prop :=
  ∀ (n : Nat) (s t s' : State), RunInvariant s → RunInvariant t → SameLive s t → run (n + 1) s = .next s' →
    ∃ t', run (n + 1) t = .next t' ∧ SameOutputs s' t' ∧ SameLive s' t'
end

