-- ==== Sys2Proof/Laws/State.lean ====
section
/-! SUPPORT. What each named update of the state leaves in each field: one lemma per field per update. -/

namespace Sys2Proof.Machine

@[simp] theorem quiet_st (s : State) : (quiet s).st = s.st := rfl
@[simp] theorem quiet_ctrl (s : State) : (quiet s).ctrl = s.ctrl := rfl
@[simp] theorem quiet_cmd (s : State) : (quiet s).cmd = s.cmd := rfl
@[simp] theorem quiet_len (s : State) : (quiet s).len = s.len := rfl
@[simp] theorem quiet_rem (s : State) : (quiet s).rem = s.rem := rfl
@[simp] theorem quiet_cnt (s : State) : (quiet s).cnt = s.cnt := rfl
@[simp] theorem quiet_buf (s : State) : (quiet s).buf = s.buf := rfl
@[simp] theorem quiet_crc (s : State) : (quiet s).crc = s.crc := rfl
@[simp] theorem quiet_ev (s : State) : (quiet s).ev = [] := rfl
@[simp] theorem quiet_diag (s : State) : (quiet s).diag = .none := rfl
@[simp] theorem quiet_txValid (s : State) : (quiet s).txValid = s.txValid := rfl
@[simp] theorem quiet_txFrame (s : State) : (quiet s).txFrame = s.txFrame := rfl
@[simp] theorem quiet_inputs (s : State) : (quiet s).inputs = s.inputs := rfl

@[simp] theorem clear_st (s : State) : (clear s).st = .idle := rfl
@[simp] theorem clear_ctrl (s : State) : (clear s).ctrl = 0x00#8 := rfl
@[simp] theorem clear_cmd (s : State) : (clear s).cmd = 0x00#8 := rfl
@[simp] theorem clear_len (s : State) : (clear s).len = 0#16 := rfl
@[simp] theorem clear_rem (s : State) : (clear s).rem = 0#16 := rfl
@[simp] theorem clear_cnt (s : State) : (clear s).cnt = 0#6 := rfl
@[simp] theorem clear_buf (s : State) : (clear s).buf = [] := rfl
@[simp] theorem clear_crc (s : State) : (clear s).crc = 0x00#8 := rfl
@[simp] theorem clear_ev (s : State) : (clear s).ev = s.ev := rfl
@[simp] theorem clear_diag (s : State) : (clear s).diag = s.diag := rfl
@[simp] theorem clear_txValid (s : State) : (clear s).txValid = s.txValid := rfl
@[simp] theorem clear_txFrame (s : State) : (clear s).txFrame = s.txFrame := rfl
@[simp] theorem clear_inputs (s : State) : (clear s).inputs = s.inputs := rfl

@[simp] theorem setReport_st (r : Report) (s : State) : (setReport r s).st = s.st := rfl
@[simp] theorem setReport_ctrl (r : Report) (s : State) : (setReport r s).ctrl = s.ctrl := rfl
@[simp] theorem setReport_cmd (r : Report) (s : State) : (setReport r s).cmd = s.cmd := rfl
@[simp] theorem setReport_len (r : Report) (s : State) : (setReport r s).len = s.len := rfl
@[simp] theorem setReport_rem (r : Report) (s : State) : (setReport r s).rem = s.rem := rfl
@[simp] theorem setReport_cnt (r : Report) (s : State) : (setReport r s).cnt = s.cnt := rfl
@[simp] theorem setReport_buf (r : Report) (s : State) : (setReport r s).buf = s.buf := rfl
@[simp] theorem setReport_crc (r : Report) (s : State) : (setReport r s).crc = s.crc := rfl
@[simp] theorem setReport_ev (r : Report) (s : State) : (setReport r s).ev = r.events := rfl
@[simp] theorem setReport_diag (r : Report) (s : State) : (setReport r s).diag = r.diag := rfl
@[simp] theorem setReport_txValid (r : Report) (s : State) : (setReport r s).txValid = s.txValid := rfl
@[simp] theorem setReport_txFrame (r : Report) (s : State) : (setReport r s).txFrame = s.txFrame := rfl
@[simp] theorem setReport_inputs (r : Report) (s : State) : (setReport r s).inputs = s.inputs := rfl

@[simp] theorem abort_st (d : Diag) (s : State) : (abort d s).st = .idle := rfl
@[simp] theorem abort_ctrl (d : Diag) (s : State) : (abort d s).ctrl = 0x00#8 := rfl
@[simp] theorem abort_cmd (d : Diag) (s : State) : (abort d s).cmd = 0x00#8 := rfl
@[simp] theorem abort_len (d : Diag) (s : State) : (abort d s).len = 0#16 := rfl
@[simp] theorem abort_rem (d : Diag) (s : State) : (abort d s).rem = 0#16 := rfl
@[simp] theorem abort_cnt (d : Diag) (s : State) : (abort d s).cnt = 0#6 := rfl
@[simp] theorem abort_buf (d : Diag) (s : State) : (abort d s).buf = [] := rfl
@[simp] theorem abort_crc (d : Diag) (s : State) : (abort d s).crc = 0x00#8 := rfl
@[simp] theorem abort_ev (d : Diag) (s : State) : (abort d s).ev = [] := rfl
@[simp] theorem abort_diag (d : Diag) (s : State) : (abort d s).diag = d := rfl
@[simp] theorem abort_txValid (d : Diag) (s : State) : (abort d s).txValid = s.txValid := rfl
@[simp] theorem abort_txFrame (d : Diag) (s : State) : (abort d s).txFrame = s.txFrame := rfl
@[simp] theorem abort_inputs (d : Diag) (s : State) : (abort d s).inputs = s.inputs := rfl

@[simp] theorem finishFrame_st (r : Report) (s : State) : (finishFrame r s).st = .idle := rfl
@[simp] theorem finishFrame_ctrl (r : Report) (s : State) : (finishFrame r s).ctrl = 0x00#8 := rfl
@[simp] theorem finishFrame_cmd (r : Report) (s : State) : (finishFrame r s).cmd = 0x00#8 := rfl
@[simp] theorem finishFrame_len (r : Report) (s : State) : (finishFrame r s).len = 0#16 := rfl
@[simp] theorem finishFrame_rem (r : Report) (s : State) : (finishFrame r s).rem = 0#16 := rfl
@[simp] theorem finishFrame_cnt (r : Report) (s : State) : (finishFrame r s).cnt = 0#6 := rfl
@[simp] theorem finishFrame_buf (r : Report) (s : State) : (finishFrame r s).buf = [] := rfl
@[simp] theorem finishFrame_crc (r : Report) (s : State) : (finishFrame r s).crc = 0x00#8 := rfl
@[simp] theorem finishFrame_ev (r : Report) (s : State) : (finishFrame r s).ev = r.events := rfl
@[simp] theorem finishFrame_diag (r : Report) (s : State) : (finishFrame r s).diag = r.diag := rfl
@[simp] theorem finishFrame_txValid (r : Report) (s : State) : (finishFrame r s).txValid = s.txValid := rfl
@[simp] theorem finishFrame_txFrame (r : Report) (s : State) : (finishFrame r s).txFrame = s.txFrame := rfl
@[simp] theorem finishFrame_inputs (r : Report) (s : State) : (finishFrame r s).inputs = s.inputs := rfl

@[simp] theorem resetRx_st (s : State) : (resetRx s).st = .idle := rfl
@[simp] theorem resetRx_ctrl (s : State) : (resetRx s).ctrl = 0x00#8 := rfl
@[simp] theorem resetRx_cmd (s : State) : (resetRx s).cmd = 0x00#8 := rfl
@[simp] theorem resetRx_len (s : State) : (resetRx s).len = 0#16 := rfl
@[simp] theorem resetRx_rem (s : State) : (resetRx s).rem = 0#16 := rfl
@[simp] theorem resetRx_cnt (s : State) : (resetRx s).cnt = 0#6 := rfl
@[simp] theorem resetRx_buf (s : State) : (resetRx s).buf = [] := rfl
@[simp] theorem resetRx_crc (s : State) : (resetRx s).crc = 0x00#8 := rfl
@[simp] theorem resetRx_ev (s : State) : (resetRx s).ev = [] := rfl
@[simp] theorem resetRx_diag (s : State) : (resetRx s).diag = .none := rfl
@[simp] theorem resetRx_txValid (s : State) : (resetRx s).txValid = s.txValid := rfl
@[simp] theorem resetRx_txFrame (s : State) : (resetRx s).txFrame = s.txFrame := rfl
@[simp] theorem resetRx_inputs (s : State) : (resetRx s).inputs = s.inputs := rfl

@[simp] theorem noFrame_st (s : State) : (noFrame s).st = s.st := rfl
@[simp] theorem noFrame_ctrl (s : State) : (noFrame s).ctrl = s.ctrl := rfl
@[simp] theorem noFrame_cmd (s : State) : (noFrame s).cmd = s.cmd := rfl
@[simp] theorem noFrame_len (s : State) : (noFrame s).len = s.len := rfl
@[simp] theorem noFrame_rem (s : State) : (noFrame s).rem = s.rem := rfl
@[simp] theorem noFrame_cnt (s : State) : (noFrame s).cnt = s.cnt := rfl
@[simp] theorem noFrame_buf (s : State) : (noFrame s).buf = s.buf := rfl
@[simp] theorem noFrame_crc (s : State) : (noFrame s).crc = s.crc := rfl
@[simp] theorem noFrame_ev (s : State) : (noFrame s).ev = s.ev := rfl
@[simp] theorem noFrame_diag (s : State) : (noFrame s).diag = s.diag := rfl
@[simp] theorem noFrame_txValid (s : State) : (noFrame s).txValid = false := rfl
@[simp] theorem noFrame_txFrame (s : State) : (noFrame s).txFrame = [] := rfl
@[simp] theorem noFrame_inputs (s : State) : (noFrame s).inputs = s.inputs := rfl

@[simp] theorem sendFrame_st (c m v : Byte) (s : State) : (sendFrame c m v s).st = s.st := rfl
@[simp] theorem sendFrame_ctrl (c m v : Byte) (s : State) : (sendFrame c m v s).ctrl = s.ctrl := rfl
@[simp] theorem sendFrame_cmd (c m v : Byte) (s : State) : (sendFrame c m v s).cmd = s.cmd := rfl
@[simp] theorem sendFrame_len (c m v : Byte) (s : State) : (sendFrame c m v s).len = s.len := rfl
@[simp] theorem sendFrame_rem (c m v : Byte) (s : State) : (sendFrame c m v s).rem = s.rem := rfl
@[simp] theorem sendFrame_cnt (c m v : Byte) (s : State) : (sendFrame c m v s).cnt = s.cnt := rfl
@[simp] theorem sendFrame_buf (c m v : Byte) (s : State) : (sendFrame c m v s).buf = s.buf := rfl
@[simp] theorem sendFrame_crc (c m v : Byte) (s : State) : (sendFrame c m v s).crc = s.crc := rfl
@[simp] theorem sendFrame_ev (c m v : Byte) (s : State) : (sendFrame c m v s).ev = s.ev := rfl
@[simp] theorem sendFrame_diag (c m v : Byte) (s : State) : (sendFrame c m v s).diag = s.diag := rfl
@[simp] theorem sendFrame_txValid (c m v : Byte) (s : State) : (sendFrame c m v s).txValid = true := rfl
@[simp] theorem sendFrame_txFrame (c m v : Byte) (s : State) : (sendFrame c m v s).txFrame = outboundFrame c m v := rfl
@[simp] theorem sendFrame_inputs (c m v : Byte) (s : State) : (sendFrame c m v s).inputs = s.inputs := rfl

@[simp] theorem acceptCtrl_st (b : Byte) (s : State) : (acceptCtrl b s).st = .readCtrl := rfl
@[simp] theorem acceptCtrl_ctrl (b : Byte) (s : State) : (acceptCtrl b s).ctrl = b := rfl
@[simp] theorem acceptCtrl_cmd (b : Byte) (s : State) : (acceptCtrl b s).cmd = s.cmd := rfl
@[simp] theorem acceptCtrl_len (b : Byte) (s : State) : (acceptCtrl b s).len = s.len := rfl
@[simp] theorem acceptCtrl_rem (b : Byte) (s : State) : (acceptCtrl b s).rem = s.rem := rfl
@[simp] theorem acceptCtrl_cnt (b : Byte) (s : State) : (acceptCtrl b s).cnt = s.cnt := rfl
@[simp] theorem acceptCtrl_buf (b : Byte) (s : State) : (acceptCtrl b s).buf = s.buf := rfl
@[simp] theorem acceptCtrl_crc (b : Byte) (s : State) : (acceptCtrl b s).crc = s.crc := rfl
@[simp] theorem acceptCtrl_ev (b : Byte) (s : State) : (acceptCtrl b s).ev = s.ev := rfl
@[simp] theorem acceptCtrl_diag (b : Byte) (s : State) : (acceptCtrl b s).diag = s.diag := rfl
@[simp] theorem acceptCtrl_txValid (b : Byte) (s : State) : (acceptCtrl b s).txValid = s.txValid := rfl
@[simp] theorem acceptCtrl_txFrame (b : Byte) (s : State) : (acceptCtrl b s).txFrame = s.txFrame := rfl
@[simp] theorem acceptCtrl_inputs (b : Byte) (s : State) : (acceptCtrl b s).inputs = s.inputs := rfl

@[simp] theorem acceptCmd_st (b : Byte) (s : State) : (acceptCmd b s).st = .readLenHi := rfl
@[simp] theorem acceptCmd_ctrl (b : Byte) (s : State) : (acceptCmd b s).ctrl = s.ctrl := rfl
@[simp] theorem acceptCmd_cmd (b : Byte) (s : State) : (acceptCmd b s).cmd = b := rfl
@[simp] theorem acceptCmd_len (b : Byte) (s : State) : (acceptCmd b s).len = s.len := rfl
@[simp] theorem acceptCmd_rem (b : Byte) (s : State) : (acceptCmd b s).rem = s.rem := rfl
@[simp] theorem acceptCmd_cnt (b : Byte) (s : State) : (acceptCmd b s).cnt = s.cnt := rfl
@[simp] theorem acceptCmd_buf (b : Byte) (s : State) : (acceptCmd b s).buf = s.buf := rfl
@[simp] theorem acceptCmd_crc (b : Byte) (s : State) : (acceptCmd b s).crc = s.crc := rfl
@[simp] theorem acceptCmd_ev (b : Byte) (s : State) : (acceptCmd b s).ev = s.ev := rfl
@[simp] theorem acceptCmd_diag (b : Byte) (s : State) : (acceptCmd b s).diag = s.diag := rfl
@[simp] theorem acceptCmd_txValid (b : Byte) (s : State) : (acceptCmd b s).txValid = s.txValid := rfl
@[simp] theorem acceptCmd_txFrame (b : Byte) (s : State) : (acceptCmd b s).txFrame = s.txFrame := rfl
@[simp] theorem acceptCmd_inputs (b : Byte) (s : State) : (acceptCmd b s).inputs = s.inputs := rfl

@[simp] theorem acceptCrc_st (b : Byte) (s : State) : (acceptCrc b s).st = .sawT1 := rfl
@[simp] theorem acceptCrc_ctrl (b : Byte) (s : State) : (acceptCrc b s).ctrl = s.ctrl := rfl
@[simp] theorem acceptCrc_cmd (b : Byte) (s : State) : (acceptCrc b s).cmd = s.cmd := rfl
@[simp] theorem acceptCrc_len (b : Byte) (s : State) : (acceptCrc b s).len = s.len := rfl
@[simp] theorem acceptCrc_rem (b : Byte) (s : State) : (acceptCrc b s).rem = s.rem := rfl
@[simp] theorem acceptCrc_cnt (b : Byte) (s : State) : (acceptCrc b s).cnt = s.cnt := rfl
@[simp] theorem acceptCrc_buf (b : Byte) (s : State) : (acceptCrc b s).buf = s.buf := rfl
@[simp] theorem acceptCrc_crc (b : Byte) (s : State) : (acceptCrc b s).crc = b := rfl
@[simp] theorem acceptCrc_ev (b : Byte) (s : State) : (acceptCrc b s).ev = s.ev := rfl
@[simp] theorem acceptCrc_diag (b : Byte) (s : State) : (acceptCrc b s).diag = s.diag := rfl
@[simp] theorem acceptCrc_txValid (b : Byte) (s : State) : (acceptCrc b s).txValid = s.txValid := rfl
@[simp] theorem acceptCrc_txFrame (b : Byte) (s : State) : (acceptCrc b s).txFrame = s.txFrame := rfl
@[simp] theorem acceptCrc_inputs (b : Byte) (s : State) : (acceptCrc b s).inputs = s.inputs := rfl

@[simp] theorem dropSample_st (s : State) : (dropSample s).st = s.st := rfl
@[simp] theorem dropSample_ctrl (s : State) : (dropSample s).ctrl = s.ctrl := rfl
@[simp] theorem dropSample_cmd (s : State) : (dropSample s).cmd = s.cmd := rfl
@[simp] theorem dropSample_len (s : State) : (dropSample s).len = s.len := rfl
@[simp] theorem dropSample_rem (s : State) : (dropSample s).rem = s.rem := rfl
@[simp] theorem dropSample_cnt (s : State) : (dropSample s).cnt = s.cnt := rfl
@[simp] theorem dropSample_buf (s : State) : (dropSample s).buf = s.buf := rfl
@[simp] theorem dropSample_crc (s : State) : (dropSample s).crc = s.crc := rfl
@[simp] theorem dropSample_ev (s : State) : (dropSample s).ev = s.ev := rfl
@[simp] theorem dropSample_diag (s : State) : (dropSample s).diag = s.diag := rfl
@[simp] theorem dropSample_txValid (s : State) : (dropSample s).txValid = s.txValid := rfl
@[simp] theorem dropSample_txFrame (s : State) : (dropSample s).txFrame = s.txFrame := rfl
@[simp] theorem dropSample_inputs (s : State) : (dropSample s).inputs = s.inputs.tail := rfl

@[simp] theorem placeFrame_st (c m : Byte) (s : State) : (placeFrame c m s).st = .expectT2 := rfl
@[simp] theorem placeFrame_ctrl (c m : Byte) (s : State) : (placeFrame c m s).ctrl = c := rfl
@[simp] theorem placeFrame_cmd (c m : Byte) (s : State) : (placeFrame c m s).cmd = m := rfl
@[simp] theorem placeFrame_len (c m : Byte) (s : State) : (placeFrame c m s).len = 0#16 := rfl
@[simp] theorem placeFrame_rem (c m : Byte) (s : State) : (placeFrame c m s).rem = s.rem := rfl
@[simp] theorem placeFrame_cnt (c m : Byte) (s : State) : (placeFrame c m s).cnt = 0#6 := rfl
@[simp] theorem placeFrame_buf (c m : Byte) (s : State) : (placeFrame c m s).buf = s.buf := rfl
@[simp] theorem placeFrame_crc (c m : Byte) (s : State) : (placeFrame c m s).crc = checksum (frameBytes c m 0x00#8 0x00#8 [] 0x00#8) := rfl
@[simp] theorem placeFrame_ev (c m : Byte) (s : State) : (placeFrame c m s).ev = s.ev := rfl
@[simp] theorem placeFrame_diag (c m : Byte) (s : State) : (placeFrame c m s).diag = s.diag := rfl
@[simp] theorem placeFrame_txValid (c m : Byte) (s : State) : (placeFrame c m s).txValid = s.txValid := rfl
@[simp] theorem placeFrame_txFrame (c m : Byte) (s : State) : (placeFrame c m s).txFrame = s.txFrame := rfl
@[simp] theorem placeFrame_inputs (c m : Byte) (s : State) : (placeFrame c m s).inputs = byteInput tail2 :: s.inputs := rfl

@[simp] theorem placeRequest_st (k : BitVec 4) (a : Byte) (s : State) : (placeRequest k a s).st = s.st := rfl
@[simp] theorem placeRequest_ctrl (k : BitVec 4) (a : Byte) (s : State) : (placeRequest k a s).ctrl = s.ctrl := rfl
@[simp] theorem placeRequest_cmd (k : BitVec 4) (a : Byte) (s : State) : (placeRequest k a s).cmd = s.cmd := rfl
@[simp] theorem placeRequest_len (k : BitVec 4) (a : Byte) (s : State) : (placeRequest k a s).len = s.len := rfl
@[simp] theorem placeRequest_rem (k : BitVec 4) (a : Byte) (s : State) : (placeRequest k a s).rem = s.rem := rfl
@[simp] theorem placeRequest_cnt (k : BitVec 4) (a : Byte) (s : State) : (placeRequest k a s).cnt = s.cnt := rfl
@[simp] theorem placeRequest_buf (k : BitVec 4) (a : Byte) (s : State) : (placeRequest k a s).buf = s.buf := rfl
@[simp] theorem placeRequest_crc (k : BitVec 4) (a : Byte) (s : State) : (placeRequest k a s).crc = s.crc := rfl
@[simp] theorem placeRequest_ev (k : BitVec 4) (a : Byte) (s : State) : (placeRequest k a s).ev = s.ev := rfl
@[simp] theorem placeRequest_diag (k : BitVec 4) (a : Byte) (s : State) : (placeRequest k a s).diag = s.diag := rfl
@[simp] theorem placeRequest_txValid (k : BitVec 4) (a : Byte) (s : State) : (placeRequest k a s).txValid = s.txValid := rfl
@[simp] theorem placeRequest_txFrame (k : BitVec 4) (a : Byte) (s : State) : (placeRequest k a s).txFrame = s.txFrame := rfl
@[simp] theorem placeRequest_inputs (k : BitVec 4) (a : Byte) (s : State) : (placeRequest k a s).inputs = requestInput k a :: s.inputs := rfl

@[simp] theorem reset_st : State.reset.st = .idle := rfl
@[simp] theorem reset_ctrl : State.reset.ctrl = 0x00#8 := rfl
@[simp] theorem reset_cmd : State.reset.cmd = 0x00#8 := rfl
@[simp] theorem reset_len : State.reset.len = 0#16 := rfl
@[simp] theorem reset_rem : State.reset.rem = 0#16 := rfl
@[simp] theorem reset_cnt : State.reset.cnt = 0#6 := rfl
@[simp] theorem reset_buf : State.reset.buf = [] := rfl
@[simp] theorem reset_crc : State.reset.crc = 0x00#8 := rfl
@[simp] theorem reset_ev : State.reset.ev = [] := rfl
@[simp] theorem reset_diag : State.reset.diag = .none := rfl
@[simp] theorem reset_txValid : State.reset.txValid = false := rfl
@[simp] theorem reset_txFrame : State.reset.txFrame = [] := rfl
@[simp] theorem reset_inputs : State.reset.inputs = [] := rfl

end Sys2Proof.Machine
end

