-- ==== Sys2Proof/Laws/Operands.lean ====
section
/-! SUPPORT. Everything each shared operand form, each shared outcome and the checksum can answer, said once. -/

namespace Sys2Proof.Machine

/-! ### Outcomes -/

@[simp] theorem report_eq_next {r : Report} {s t : State} : report r s = .next t ↔ t = finishFrame r s := by
  simp [report, eq_comm]

@[simp] theorem transmit_eq_next {c m v : Byte} {s t : State} : transmit c m v s = .next t ↔ t = sendFrame c m v s := by
  simp [transmit, eq_comm]

@[simp] theorem suppress_eq_next {s t : State} : suppress s = .next t ↔ t = noFrame s := by
  simp [suppress, eq_comm]

@[simp] theorem noEvent_events (d : Diag) : (noEvent d).events = [] := rfl
@[simp] theorem noEvent_diag (d : Diag) : (noEvent d).diag = d := rfl
@[simp] theorem oneEvent_events (e : Event) : (oneEvent e).events = [e] := rfl
@[simp] theorem oneEvent_diag (e : Event) : (oneEvent e).diag = .none := rfl
@[simp] theorem outOfRange_events : outOfRange.events = [] := rfl
@[simp] theorem outOfRange_diag : outOfRange.diag = .payloadOutOfRange := rfl
@[simp] theorem unknownKey_events (c m : Byte) : (unknownKey c m).events = [.unrecognized c m] := rfl
@[simp] theorem unknownKey_diag (c m : Byte) : (unknownKey c m).diag = .unknownCommand := rfl

/-! ### Operand forms -/

/-- A handler of one byte runs on that byte, or reads nothing when the payload ends before it. -/
theorem withByte_cases (payload : List Byte) (k : Nat) (handle : Byte → Report) :
    (payload.length ≤ k ∧ withByte payload k handle = outOfRange) ∨
    (∃ h : k < payload.length, withByte payload k handle = handle payload[k]) := by
  rcases Nat.lt_or_ge k payload.length with h | h
  · exact .inr ⟨h, by simp [withByte, h]⟩
  · exact .inl ⟨h, by simp [withByte, h]⟩

@[simp] theorem withByte_nil (k : Nat) (handle : Byte → Report) : withByte [] k handle = outOfRange := rfl

@[simp] theorem withByte_cons_zero (p : Byte) (ps : List Byte) (handle : Byte → Report) :
    withByte (p :: ps) 0 handle = handle p := rfl

/-- A table lookup answers the entry at the index, or nothing when the index is outside the table. -/
theorem lookup_cases {α : Type} (table : List α) (mk : α → Event) (p : Byte) :
    (table.length ≤ p.toNat ∧ lookup table mk p = outOfRange) ∨
    (∃ h : p.toNat < table.length, lookup table mk p = oneEvent (mk table[p.toNat])) := by
  rcases Nat.lt_or_ge p.toNat table.length with h | h
  · exact .inr ⟨h, by simp [lookup, h]⟩
  · exact .inl ⟨h, by simp [lookup, h]⟩

/-- A scene index is the byte less one, for a byte in 1..count; any other byte answers nothing. -/
theorem sceneIndex_cases (count p : Byte) :
    (p.toNat = 0 ∨ count.toNat < p.toNat) ∧ sceneIndex count p = outOfRange ∨
    1 ≤ p.toNat ∧ p.toNat ≤ count.toNat ∧ sceneIndex count p = oneEvent (.sceneMode (p - 1#8)) := by
  by_cases h : 1 ≤ p.toNat ∧ p.toNat ≤ count.toNat
  · exact .inr ⟨h.1, h.2, if_pos h⟩
  · exact .inl ⟨by omega, if_neg h⟩

/-- A text is delivered whole when it is shorter than the bound, and not at all otherwise. -/
theorem textReport_cases (bound : Nat) (mk : List Byte → Event) (payload : List Byte) :
    (bound ≤ payload.length ∧ textReport bound mk payload = outOfRange) ∨
    (payload.length < bound ∧ textReport bound mk payload = oneEvent (mk payload)) := by
  rcases Nat.lt_or_ge payload.length bound with h | h
  · exact .inr ⟨h, if_neg (by omega)⟩
  · exact .inl ⟨h, if_pos h⟩

/-- The packed report is five events from bytes 0 to 4, or nothing when the payload is shorter. -/
theorem packedReport_cases (payload : List Byte) :
    (payload.length < 5 ∧ packedReport payload = outOfRange) ∨
    (∃ p0 p1 p2 p3 p4 rest, payload = p0 :: p1 :: p2 :: p3 :: p4 :: rest ∧
      packedReport payload =
        ⟨[.spatialStaticValue p0, .presenceDetectionDistance p1, .spatialMotionValue p2, .motionDistance p3,
          .motionSpeed (asSpeed p4)], .none⟩) := by
  match payload with
  | [] => exact .inl ⟨by simp, rfl⟩
  | [_] => exact .inl ⟨by simp, rfl⟩
  | [_, _] => exact .inl ⟨by simp, rfl⟩
  | [_, _, _] => exact .inl ⟨by simp, rfl⟩
  | [_, _, _, _] => exact .inl ⟨by simp, rfl⟩
  | p0 :: p1 :: p2 :: p3 :: p4 :: rest => exact .inr ⟨p0, p1, p2, p3, p4, rest, rfl, rfl⟩

/-- A scene code is the entry at the index, unless the index is outside the list or the entry is 0x00. -/
theorem sceneCode_eq_some {codes : List Byte} {index code : Byte} :
    sceneCode codes index = some code ↔ codes[index.toNat]? = some code ∧ code ≠ 0x00#8 := by
  unfold sceneCode
  split
  · next h => simp [h]
  · next c h =>
    rw [h]
    split
    · next hc => simp_all
    · next hc =>
      constructor
      · intro h; cases h; exact ⟨rfl, hc⟩
      · intro h; exact h.1

/-! ### The checksum -/

@[simp] theorem byteSum_nil : byteSum [] = 0 := rfl

@[simp] theorem byteSum_cons (b : Byte) (bs : List Byte) : byteSum (b :: bs) = b.toNat + byteSum bs := rfl

theorem byteSum_append (as bs : List Byte) : byteSum (as ++ bs) = byteSum as + byteSum bs := by
  induction as with
  | nil => simp
  | cons a as ih => simp [ih, Nat.add_assoc]

/-- The last three bytes of a frame do not enter its checksum. -/
theorem checksum_append_three (bs : List Byte) (x y z : Byte) : checksum (bs ++ [x, y, z]) = sum8 bs := by
  simp [checksum]

/-- Validation compares the byte before the tail with the sum of the bytes before it. -/
theorem validFrame_append_three (bs : List Byte) (x y z : Byte) :
    validFrame (bs ++ [x, y, z]) = true ↔ x = sum8 bs := by
  simp [validFrame, checksum_append_three]

/-- An outbound frame has ten bytes. -/
@[simp] theorem outboundFrame_length (c m v : Byte) : (outboundFrame c m v).length = 10 := rfl

end Sys2Proof.Machine
end

