-- ==== Sys2Proof/Laws/Decode.lean ====
section
/-! SUPPORT. What the decoder answers on keys, on requests and on frames. -/

namespace Sys2Proof

/-- The parts of a chosen instruction, one choice at a time. -/
theorem if_parts {c : Prop} [Decidable c] {i j : Instr} {q : Parts} (hi : c → i.parts = q) (hj : j.parts = q) :
    (if c then i else j).parts = q := by
  split
  · next h => exact hi h
  · exact hj

theorem decodeSystem_parts (cmd : Byte) (payload : List Byte) :
    (decodeSystem cmd payload).parts = .frame 0x01#8 cmd payload := by
  unfold decodeSystem
  repeat (refine if_parts ?_ ?_; · rintro rfl; rfl)
  rfl

theorem decodeProduct_parts (cmd : Byte) (payload : List Byte) :
    (decodeProduct cmd payload).parts = .frame 0x02#8 cmd payload := by
  unfold decodeProduct
  repeat (refine if_parts ?_ ?_; · rintro rfl; rfl)
  rfl

theorem decodeWorkStatus_parts (cmd : Byte) (payload : List Byte) :
    (decodeWorkStatus cmd payload).parts = .frame 0x05#8 cmd payload := by
  unfold decodeWorkStatus
  repeat (refine if_parts ?_ ?_; · rintro rfl; rfl)
  rfl

theorem decodeParameters_parts (cmd : Byte) (payload : List Byte) :
    (decodeParameters cmd payload).parts = .frame 0x08#8 cmd payload := by
  unfold decodeParameters
  repeat (refine if_parts ?_ ?_; · rintro rfl; rfl)
  rfl

theorem decodePresence_parts (cmd : Byte) (payload : List Byte) :
    (decodePresence cmd payload).parts = .frame 0x80#8 cmd payload := by
  unfold decodePresence
  repeat (refine if_parts ?_ ?_; · rintro rfl; rfl)
  rfl

/-- The instruction of a key has that key and that payload. -/
@[simp] theorem decodeKey_parts (ctrl cmd : Byte) (payload : List Byte) :
    (decodeKey ctrl cmd payload).parts = .frame ctrl cmd payload := by
  unfold decodeKey
  split_ifs with h1 h2 h5 h8 h80
  · rw [h1, decodeSystem_parts]
  · rw [h2, decodeProduct_parts]
  · rw [h5, decodeWorkStatus_parts]
  · rw [h8, decodeParameters_parts]
  · rw [h80, decodePresence_parts]
  · rfl

/-- The instruction of a key is an inbound frame. -/
@[simp] theorem decodeKey_isInbound (ctrl cmd : Byte) (payload : List Byte) :
    (decodeKey ctrl cmd payload).isInbound = true := by
  simp [Instr.isInbound]

/-- The well-formedness of a chosen instruction, one choice at a time. -/
theorem if_wellFormed {c : Prop} [Decidable c] {i j : Instr} (hi : c → i.wellFormed = true) (hj : ¬c → j.wellFormed = true) :
    (if c then i else j).wellFormed = true := by
  split
  · next h => exact hi h
  · next h => exact hj h

theorem decodeSystem_wellFormed (cmd : Byte) {payload : List Byte} (h : payloadFits payload = true) :
    (decodeSystem cmd payload).wellFormed = true := by
  unfold decodeSystem
  repeat (refine if_wellFormed (fun _ => h) fun _ => ?_)
  simp_all [Instr.wellFormed, knownCommands01]

theorem decodeProduct_wellFormed (cmd : Byte) {payload : List Byte} (h : payloadFits payload = true) :
    (decodeProduct cmd payload).wellFormed = true := by
  unfold decodeProduct
  repeat (refine if_wellFormed (fun _ => h) fun _ => ?_)
  simp_all [Instr.wellFormed, knownCommands02]

theorem decodeWorkStatus_wellFormed (cmd : Byte) {payload : List Byte} (h : payloadFits payload = true) :
    (decodeWorkStatus cmd payload).wellFormed = true := by
  unfold decodeWorkStatus
  repeat (refine if_wellFormed (fun _ => h) fun _ => ?_)
  simp_all [Instr.wellFormed, knownCommands05]

theorem decodeParameters_wellFormed (cmd : Byte) {payload : List Byte} (h : payloadFits payload = true) :
    (decodeParameters cmd payload).wellFormed = true := by
  unfold decodeParameters
  repeat (refine if_wellFormed (fun _ => h) fun _ => ?_)
  simp_all [Instr.wellFormed, knownCommands08]

theorem decodePresence_wellFormed (cmd : Byte) {payload : List Byte} (h : payloadFits payload = true) :
    (decodePresence cmd payload).wellFormed = true := by
  unfold decodePresence
  repeat (refine if_wellFormed (fun _ => h) fun _ => ?_)
  simp_all [Instr.wellFormed, knownCommands80]

/-- The instruction of a key is well-formed when the payload fits: a row for "any other" word is chosen only where no row names
the word. -/
theorem decodeKey_wellFormed (ctrl cmd : Byte) {payload : List Byte} (h : payload.length ≤ Config.maxPayload) :
    (decodeKey ctrl cmd payload).wellFormed = true := by
  have hp : payloadFits payload = true := decide_eq_true h
  unfold decodeKey
  refine if_wellFormed (fun _ => decodeSystem_wellFormed cmd hp) fun _ => ?_
  refine if_wellFormed (fun _ => decodeProduct_wellFormed cmd hp) fun _ => ?_
  refine if_wellFormed (fun _ => decodeWorkStatus_wellFormed cmd hp) fun _ => ?_
  refine if_wellFormed (fun _ => decodeParameters_wellFormed cmd hp) fun _ => ?_
  refine if_wellFormed (fun _ => decodePresence_wellFormed cmd hp) fun _ => ?_
  simp_all [Instr.wellFormed, knownControls]

/-- The instruction of a request has that kind and that argument. -/
theorem decodeRequest_parts {kind : BitVec 4} {arg : Byte} {i : Instr} (h : decodeRequest kind arg = .ok i) :
    i.parts = .request kind arg := by
  unfold decodeRequest at h
  split_ifs at h <;> cases h <;> (subst_vars; rfl)

/-- The instruction of a request is not an inbound frame. -/
theorem decodeRequest_isInbound {kind : BitVec 4} {arg : Byte} {i : Instr} (h : decodeRequest kind arg = .ok i) :
    i.isInbound = false := by
  simp [Instr.isInbound, decodeRequest_parts h]

/-! ### The byte reader -/

@[simp] theorem takeByte_nil : takeByte [] = .error .truncated := rfl

@[simp] theorem takeByte_cons (b : Byte) (bs : List Byte) : takeByte (b :: bs) = .ok (b, bs) := rfl

@[simp] theorem takeBytes_append (as bs : List Byte) : takeBytes as.length (as ++ bs) = .ok (as, bs) := by
  simp [takeBytes]

@[simp] theorem require_true (why : Rejection) : require true why = .ok () := rfl

@[simp] theorem require_false (why : Rejection) : require false why = .error why := rfl

/-- Everything a check can answer. -/
theorem require_eq_ok {check : Bool} {why : Rejection} {u : Unit} : require check why = .ok u ↔ check = true := by
  cases check <;> simp [require]

/-- Everything taking a byte can answer. -/
theorem takeByte_eq_ok {bs rest : List Byte} {b : Byte} : takeByte bs = .ok (b, rest) ↔ bs = b :: rest := by
  cases bs <;> simp

/-- Everything taking a number of bytes can answer. -/
theorem takeBytes_eq_ok {n : Nat} {bs taken rest : List Byte} :
    takeBytes n bs = .ok (taken, rest) ↔ taken.length = n ∧ bs = taken ++ rest := by
  constructor
  · intro h
    unfold takeBytes at h
    split at h
    · cases h
    · cases h
      simp; omega
  · rintro ⟨rfl, rfl⟩
    simp

/-- One step of a chain of checks succeeds only if the first check does and the rest does on what it gave. -/
theorem except_bind_eq_ok {ε α β : Type} {x : Except ε α} {f : α → Except ε β} {b : β} :
    (x >>= f) = .ok b ↔ ∃ a, x = .ok a ∧ f a = .ok b := by
  cases x <;> simp [bind, Except.bind]

end Sys2Proof
end

