-- ==== Sys2Proof/Laws/Memory.lean ====
section
/-! SUPPORT. The laws of the payload buffer: canonical form is kept, a read after a write, and what the checked accesses
answer. -/

namespace Sys2Proof.Machine

@[simp] theorem Memory.read_nil (a : Nat) : Memory.read [] a = 0x00#8 := rfl

@[simp] theorem Memory.wf_nil : Memory.wf [] = true := rfl

theorem Memory.wfFrom_cons {low k : Nat} {v : Byte} {m : Memory} :
    Memory.wfFrom low ((k, v) :: m) = true ↔
      low ≤ k ∧ k < bufferSize ∧ v ≠ 0x00#8 ∧ Memory.wfFrom (k + 1) m = true := by
  simp [Memory.wfFrom, and_assoc]

theorem Memory.wfFrom_mono {low low' : Nat} {m : Memory} (h : low' ≤ low) (hm : Memory.wfFrom low m = true) :
    Memory.wfFrom low' m = true := by
  cases m with
  | nil => rfl
  | cons c m =>
    obtain ⟨k, v⟩ := c
    rw [Memory.wfFrom_cons] at hm ⊢
    exact ⟨h.trans hm.1, hm.2⟩

/-- No address below the first listed one is listed. -/
theorem Memory.read_below {low a : Nat} {m : Memory} (hm : Memory.wfFrom low m = true) (ha : a < low) :
    Memory.read m a = 0x00#8 := by
  induction m generalizing low with
  | nil => rfl
  | cons c m ih =>
    obtain ⟨k, v⟩ := c
    rw [Memory.wfFrom_cons] at hm
    rw [Memory.read, if_neg (by omega)]
    exact ih hm.2.2.2 (by omega)

theorem Memory.wfFrom_write {low a : Nat} {b : Byte} {m : Memory} (hm : Memory.wfFrom low m = true) (hl : low ≤ a)
    (ha : a < bufferSize) : Memory.wfFrom low (Memory.write m a b) = true := by
  induction m generalizing low with
  | nil =>
    rw [Memory.write]
    split
    · rfl
    · next hb => exact Memory.wfFrom_cons.2 ⟨hl, ha, hb, rfl⟩
  | cons c m ih =>
    obtain ⟨k, v⟩ := c
    have hc := Memory.wfFrom_cons.1 hm
    rw [Memory.write]
    split
    · split
      · exact hm
      · next hb => exact Memory.wfFrom_cons.2 ⟨hl, ha, hb, Memory.wfFrom_cons.2 ⟨by omega, hc.2⟩⟩
    · split
      · next hak =>
        subst hak
        split
        · exact Memory.wfFrom_mono (by omega) hc.2.2.2
        · next hb => exact Memory.wfFrom_cons.2 ⟨hc.1, ha, hb, hc.2.2.2⟩
      · exact Memory.wfFrom_cons.2 ⟨hc.1, hc.2.1, hc.2.2.1, ih hc.2.2.2 (by omega)⟩

theorem Memory.read_write_from {low a : Nat} {b : Byte} {m : Memory} (hm : Memory.wfFrom low m = true) (i : Nat) :
    Memory.read (Memory.write m a b) i = if i = a then b else Memory.read m i := by
  induction m generalizing low with
  | nil =>
    rw [Memory.write]
    by_cases hi : i = a
    · subst hi
      split
      · next hb => simp [hb]
      · simp [Memory.read]
    · have hi' : ¬ a = i := fun h => hi h.symm
      split <;> simp [Memory.read, hi']
  | cons c m ih =>
    obtain ⟨k, v⟩ := c
    have hc := Memory.wfFrom_cons.1 hm
    have below : ∀ {j}, j ≤ k → Memory.read m j = 0x00#8 := fun h => Memory.read_below hc.2.2.2 (by omega)
    rw [Memory.write]
    split
    · next hak =>
      split
      · next hb =>
        split
        · next hi => subst hi hb; rw [Memory.read, if_neg (by omega), below (by omega)]
        · rfl
      · rw [Memory.read]
        simp only [eq_comm]
    · split
      · next hak =>
        subst hak
        split
        · next hb =>
          split
          · next hi => subst hi hb; exact below (le_refl _)
          · next hi => rw [Memory.read, if_neg (by omega)]
        · rw [Memory.read, Memory.read]
          by_cases hi : i = a
          · simp [hi]
          · have hi' : ¬ a = i := fun h => hi h.symm
            simp [hi, hi']
      · next hak =>
        rw [Memory.read, Memory.read, ih hc.2.2.2]
        split <;> split <;> first | rfl | omega

/-- Writing keeps the canonical form. -/
theorem Memory.wf_write {a : Nat} {b : Byte} {m : Memory} (hm : Memory.wf m = true) (ha : a < bufferSize) :
    Memory.wf (Memory.write m a b) = true :=
  Memory.wfFrom_write hm (Nat.zero_le a) ha

/-- Reading after a write: the byte written at its own address, the old byte at every other. -/
theorem Memory.read_write {a : Nat} {b : Byte} {m : Memory} (hm : Memory.wf m = true) (i : Nat) :
    Memory.read (Memory.write m a b) i = if i = a then b else Memory.read m i :=
  Memory.read_write_from hm i

/-- Everything a checked write can answer. -/
theorem Memory.write?_eq_some {m m' : Memory} {i : Nat} {v : Byte} :
    Memory.write? m i v = some m' ↔ i < bufferSize ∧ m' = Memory.write m i v := by
  simp [Memory.write?, eq_comm]

/-- Everything a checked read of a prefix can answer. -/
theorem Memory.prefix?_eq_some {m : Memory} {n : Nat} {bytes : List Byte} :
    Memory.prefix? m n = some bytes ↔ n ≤ bufferSize ∧ bytes = (List.range n).map (Memory.read m) := by
  simp [Memory.prefix?, eq_comm]

/-- The checked write keeps the canonical form. -/
theorem Memory.wf_write? {m m' : Memory} {i : Nat} {v : Byte} (hm : Memory.wf m = true)
    (h : Memory.write? m i v = some m') : Memory.wf m' = true := by
  obtain ⟨hi, rfl⟩ := Memory.write?_eq_some.1 h
  exact Memory.wf_write hm hi

/-- The buffer after reset is in canonical form. -/
theorem reset_wf : Memory.wf State.reset.buf = true := rfl

end Sys2Proof.Machine
end

