-- ==== Sys2Proof/Laws/Framer.lean ====
section
/-! SUPPORT. What the meanings, the Framer and the ports can do, each said once: the lemmas to cite instead of unfolding
`exec`, `rxStep`, `txPart` and `step`. -/

namespace Sys2Proof.Machine

/-! ### Meanings -/

/-- An inbound frame finishes with a report that does not depend on the state. -/
theorem exec_inbound (i : Instr) (h : i.isInbound = true) : ∃ r, ∀ s, exec i s = .next (finishFrame r s) := by
  cases i <;> first | exact ⟨_, fun _ => rfl⟩ | exact absurd h (by simp [Instr.isInbound, Instr.parts])

/-- A request gives one frame or none, the same one in every state, and changes nothing else. -/
theorem exec_request (i : Instr) (h : i.isInbound = false) :
    (∃ c m v, ∀ s, exec i s = .next (sendFrame c m v s)) ∨ (∀ s, exec i s = .next (noFrame s)) := by
  cases i
  case txSetSceneMode arg =>
    cases hc : sceneCode Config.sceneCodes arg with
    | none => exact .inr fun s => by simp only [exec, execTxSetSceneMode, hc]
    | some code => exact .inl ⟨0x05#8, 0x07#8, code, fun s => by simp only [exec, execTxSetSceneMode, hc]⟩
  all_goals first | exact .inl ⟨_, _, _, fun _ => rfl⟩ | exact absurd h (by simp [Instr.isInbound, Instr.parts])

/-- Every instruction completes, in every state. -/
theorem exec_next (i : Instr) (s : State) : ∃ t, exec i s = .next t := by
  cases h : i.isInbound with
  | true => exact (exec_inbound i h).elim fun r hr => ⟨_, hr s⟩
  | false =>
    rcases exec_request i h with ⟨c, m, v, hf⟩ | hf
    · exact ⟨_, hf s⟩
    · exact ⟨_, hf s⟩

/-! ### The RX step -/

/-- A payload byte: the buffer takes it at index `cnt`, the counters move, and the last one leads to the checksum. -/
theorem acceptPayload_next {b : Byte} {s t : State} (h : acceptPayload b s = .next t) :
    s.cnt.toNat < bufferSize ∧
    t = { s with
      buf := Memory.write s.buf s.cnt.toNat b, cnt := s.cnt + 1#6, rem := s.rem - 1#16
      st := if s.rem - 1#16 = 0#16 then .readCrc else .readPayload } := by
  unfold acceptPayload at h
  split at h
  · cases h
  · next m hm =>
    obtain ⟨hi, rfl⟩ := Memory.write?_eq_some.1 hm
    exact ⟨hi, by simpa [eq_comm] using h⟩

/-- A payload byte is taken whenever its index exists. -/
theorem acceptPayload_of_lt {s : State} (b : Byte) (h : s.cnt.toNat < bufferSize) :
    acceptPayload b s = .next { s with
      buf := Memory.write s.buf s.cnt.toNat b, cnt := s.cnt + 1#6, rem := s.rem - 1#16
      st := if s.rem - 1#16 = 0#16 then .readCrc else .readPayload } := by
  simp [acceptPayload, Memory.write?, h]

/-- The payload of a completed frame. -/
def payloadOf (s : State) : List Byte := (List.range s.len.toNat).map (Memory.read s.buf)

@[simp] theorem payloadOf_length (s : State) : (payloadOf s).length = s.len.toNat := by simp [payloadOf]

/-- Completion runs the key's instruction on the payload when the checksum is right, and reports a mismatch otherwise. -/
theorem complete_of_le {s : State} (h : s.len.toNat ≤ bufferSize) :
    complete s =
      if validFrame (rawFrame s (payloadOf s)) then exec (decodeKey s.ctrl s.cmd (payloadOf s)) s
      else .next (finishFrame ⟨[], .checksumMismatch⟩ s) := by
  simp only [complete, Memory.prefix?, if_pos h, payloadOf]
  rfl

/-- Whatever completion answers, it is the finished frame with some report, and the length fitted the buffer. -/
theorem complete_next {s t : State} (h : complete s = .next t) :
    s.len.toNat ≤ bufferSize ∧ ∃ r, t = finishFrame r s := by
  unfold complete at h
  split at h
  · cases h
  · next p hp =>
    refine ⟨(Memory.prefix?_eq_some.1 hp).1, ?_⟩
    split at h
    · obtain ⟨r, hr⟩ := exec_inbound _ (decodeKey_isInbound s.ctrl s.cmd p)
      rw [hr] at h
      exact ⟨r, by simpa [eq_comm] using h⟩
    · exact ⟨_, by simpa [eq_comm] using h⟩

/-- The RX step in a state whose code is not one of the transition table: as in IDLE (R149). -/
theorem rxStep_unreachable {s : State} (b : Byte) (h : s.st.reachable = false) :
    rxStep b s = .next (hunt b (quiet s)) := by
  cases hs : s.st <;> simp_all [FramerState.reachable, rxStep]

/-- The RX step leaves the TX ports and the inputs alone. -/
theorem rxStep_frame {b : Byte} {s t : State} (h : rxStep b s = .next t) :
    t.txValid = s.txValid ∧ t.txFrame = s.txFrame ∧ t.inputs = s.inputs := by
  unfold rxStep at h
  split at h
  case h_8 =>
    obtain ⟨-, rfl⟩ := acceptPayload_next h
    exact ⟨rfl, rfl, rfl⟩
  case h_11 =>
    unfold acceptTail2 at h
    split at h
    · obtain ⟨-, r, rfl⟩ := complete_next h
      exact ⟨rfl, rfl, rfl⟩
    · cases h
      exact ⟨rfl, rfl, rfl⟩
  all_goals
    cases h
    first
    | exact ⟨rfl, rfl, rfl⟩
    | simp only [hunt, acceptHeader2, acceptLenHi, acceptLenLo, acceptTail1]
      split_ifs <;> exact ⟨rfl, rfl, rfl⟩

/-! ### The TX part and the step -/

/-- The TX part writes the TX ports and nothing else, and what it writes does not depend on the state. -/
theorem txPart_eq (p : PortSample) :
    (∃ c m v, ∀ s, txPart p s = .next (sendFrame c m v s)) ∨ (∀ s, txPart p s = .next (noFrame s)) := by
  cases hv : p.txReqValid with
  | false => exact .inr fun s => by simp [txPart, hv, suppress]
  | true =>
    cases hd : decodeRequest p.txReqKind p.txReqArg with
    | error e => exact .inr fun s => by simp [txPart, hv, runRequest, hd, suppress]
    | ok i =>
      have : ∀ s, txPart p s = exec i s := fun s => by simp [txPart, hv, runRequest, hd]
      simp only [this]
      exact exec_request i (decodeRequest_isInbound hd)

/-- The TX part always completes. -/
theorem txPart_next (p : PortSample) (s : State) : ∃ t, txPart p s = .next t := by
  rcases txPart_eq p with ⟨c, m, v, h⟩ | h
  · exact ⟨_, h s⟩
  · exact ⟨_, h s⟩

/-- What the TX part leaves unchanged, and what it can leave on its ports. -/
theorem txPart_frame {p : PortSample} {s t : State} (h : txPart p s = .next t) :
    t.st = s.st ∧ t.ctrl = s.ctrl ∧ t.cmd = s.cmd ∧ t.len = s.len ∧ t.rem = s.rem ∧ t.cnt = s.cnt ∧ t.buf = s.buf ∧
    t.crc = s.crc ∧ t.ev = s.ev ∧ t.diag = s.diag ∧ t.inputs = s.inputs ∧
    t.txFrame.length = if t.txValid then 10 else 0 := by
  rcases txPart_eq p with ⟨c, m, v, hf⟩ | hf <;> rw [hf] at h <;> cases h <;> simp

/-- A step that answers a next state is an RX part followed by a TX part. -/
theorem step_next {s t : State} (h : step s = .next t) :
    ∃ u, rxPart (nextSample s) (dropSample s) = .next u ∧ txPart (nextSample s) u = .next t := by
  unfold step portStep at h
  split at h
  · next u hu => exact ⟨u, hu, h⟩
  · cases h
  · cases h

/-- A step whose RX part answers a next state is the TX part on it. -/
theorem step_of_rxPart {s u : State} (h : rxPart (nextSample s) (dropSample s) = .next u) :
    step s = txPart (nextSample s) u := by
  simp [step, portStep, h]

end Sys2Proof.Machine
end

