-- ==== Sys2Proof/Laws/PerInstr.lean ====
section
/-! SUPPORT. One fact about every instruction's encoding, one lemma per constructor: the key or the request of a well-formed
instruction decodes to that instruction again. -/

namespace Sys2Proof.Laws.KeyRoundTrip

/-- What the decoder reads from the parts of an instruction. -/
def decodeParts : Parts → Except Rejection Instr
  | .frame ctrl cmd payload => .ok (decodeKey ctrl cmd payload)
  | .request kind arg => decodeRequest kind arg

/-- The parts of a well-formed instruction decode to the instruction. -/
def Statement (i : Instr) : Prop := i.wellFormed = true → decodeParts i.parts = .ok i

theorem rx0101Heartbeat (payload : List Byte) : Statement (.rx0101Heartbeat payload) := fun _ => rfl
theorem rx0102ResetAck (payload : List Byte) : Statement (.rx0102ResetAck payload) := fun _ => rfl
theorem rx01XXUnknown (cmd : Byte) (payload : List Byte) : Statement (.rx01XXUnknown cmd payload) := by
  intro h
  simp only [Instr.wellFormed, knownCommands01, Bool.and_eq_true, Bool.not_eq_true', List.contains_eq_mem,
    decide_eq_false_iff_not, List.mem_cons, List.not_mem_nil, or_false, not_or] at h
  show Except.ok (decodeSystem cmd payload) = _
  simp only [decodeSystem, h, if_false]
theorem rx02A1ProductModel (payload : List Byte) : Statement (.rx02A1ProductModel payload) := fun _ => rfl
theorem rx02A2ProductId (payload : List Byte) : Statement (.rx02A2ProductId payload) := fun _ => rfl
theorem rx02A3HardwareModel (payload : List Byte) : Statement (.rx02A3HardwareModel payload) := fun _ => rfl
theorem rx02A4FirmwareVersion (payload : List Byte) : Statement (.rx02A4FirmwareVersion payload) := fun _ => rfl
theorem rx02XXUnknown (cmd : Byte) (payload : List Byte) : Statement (.rx02XXUnknown cmd payload) := by
  intro h
  simp only [Instr.wellFormed, knownCommands02, Bool.and_eq_true, Bool.not_eq_true', List.contains_eq_mem,
    decide_eq_false_iff_not, List.mem_cons, List.not_mem_nil, or_false, not_or] at h
  show Except.ok (decodeProduct cmd payload) = _
  simp only [decodeProduct, h, if_false]
theorem rx0501InitStatus (payload : List Byte) : Statement (.rx0501InitStatus payload) := fun _ => rfl
theorem rx0581InitStatus (payload : List Byte) : Statement (.rx0581InitStatus payload) := fun _ => rfl
theorem rx0587SceneMode (payload : List Byte) : Statement (.rx0587SceneMode payload) := fun _ => rfl
theorem rx0507Inert (payload : List Byte) : Statement (.rx0507Inert payload) := fun _ => rfl
theorem rx0508Inert (payload : List Byte) : Statement (.rx0508Inert payload) := fun _ => rfl
theorem rx0509Inert (payload : List Byte) : Statement (.rx0509Inert payload) := fun _ => rfl
theorem rx0588Inert (payload : List Byte) : Statement (.rx0588Inert payload) := fun _ => rfl
theorem rx0589Inert (payload : List Byte) : Statement (.rx0589Inert payload) := fun _ => rfl
theorem rx05XXUnknown (cmd : Byte) (payload : List Byte) : Statement (.rx05XXUnknown cmd payload) := by
  intro h
  simp only [Instr.wellFormed, knownCommands05, Bool.and_eq_true, Bool.not_eq_true', List.contains_eq_mem,
    decide_eq_false_iff_not, List.mem_cons, List.not_mem_nil, or_false, not_or] at h
  show Except.ok (decodeWorkStatus cmd payload) = _
  simp only [decodeWorkStatus, h, if_false]
theorem rx0800OutputSwitch (payload : List Byte) : Statement (.rx0800OutputSwitch payload) := fun _ => rfl
theorem rx0880OutputSwitch (payload : List Byte) : Statement (.rx0880OutputSwitch payload) := fun _ => rfl
theorem rx0801PackedFields (payload : List Byte) : Statement (.rx0801PackedFields payload) := fun _ => rfl
theorem rx0881StaticValue (payload : List Byte) : Statement (.rx0881StaticValue payload) := fun _ => rfl
theorem rx0882DetectionDistance (payload : List Byte) : Statement (.rx0882DetectionDistance payload) := fun _ => rfl
theorem rx0883MotionValue (payload : List Byte) : Statement (.rx0883MotionValue payload) := fun _ => rfl
theorem rx0884MotionDistance (payload : List Byte) : Statement (.rx0884MotionDistance payload) := fun _ => rfl
theorem rx0885MotionSpeed (payload : List Byte) : Statement (.rx0885MotionSpeed payload) := fun _ => rfl
theorem rx0806KeepAway (payload : List Byte) : Statement (.rx0806KeepAway payload) := fun _ => rfl
theorem rx0886KeepAway (payload : List Byte) : Statement (.rx0886KeepAway payload) := fun _ => rfl
theorem rx0807MovementSigns (payload : List Byte) : Statement (.rx0807MovementSigns payload) := fun _ => rfl
theorem rx0887MovementSigns (payload : List Byte) : Statement (.rx0887MovementSigns payload) := fun _ => rfl
theorem rx0808Inert (payload : List Byte) : Statement (.rx0808Inert payload) := fun _ => rfl
theorem rx0809Inert (payload : List Byte) : Statement (.rx0809Inert payload) := fun _ => rfl
theorem rx080AInert (payload : List Byte) : Statement (.rx080AInert payload) := fun _ => rfl
theorem rx080BInert (payload : List Byte) : Statement (.rx080BInert payload) := fun _ => rfl
theorem rx080CInert (payload : List Byte) : Statement (.rx080CInert payload) := fun _ => rfl
theorem rx080DInert (payload : List Byte) : Statement (.rx080DInert payload) := fun _ => rfl
theorem rx080EInert (payload : List Byte) : Statement (.rx080EInert payload) := fun _ => rfl
theorem rx0888Inert (payload : List Byte) : Statement (.rx0888Inert payload) := fun _ => rfl
theorem rx0889Inert (payload : List Byte) : Statement (.rx0889Inert payload) := fun _ => rfl
theorem rx088AInert (payload : List Byte) : Statement (.rx088AInert payload) := fun _ => rfl
theorem rx088BInert (payload : List Byte) : Statement (.rx088BInert payload) := fun _ => rfl
theorem rx088CInert (payload : List Byte) : Statement (.rx088CInert payload) := fun _ => rfl
theorem rx088DInert (payload : List Byte) : Statement (.rx088DInert payload) := fun _ => rfl
theorem rx088EInert (payload : List Byte) : Statement (.rx088EInert payload) := fun _ => rfl
theorem rx08XXUnknown (cmd : Byte) (payload : List Byte) : Statement (.rx08XXUnknown cmd payload) := by
  intro h
  simp only [Instr.wellFormed, knownCommands08, Bool.and_eq_true, Bool.not_eq_true', List.contains_eq_mem,
    decide_eq_false_iff_not, List.mem_cons, List.not_mem_nil, or_false, not_or] at h
  show Except.ok (decodeParameters cmd payload) = _
  simp only [decodeParameters, h, if_false]
theorem rx8001HumanPresence (payload : List Byte) : Statement (.rx8001HumanPresence payload) := fun _ => rfl
theorem rx8081HumanPresence (payload : List Byte) : Statement (.rx8081HumanPresence payload) := fun _ => rfl
theorem rx8002MotionStatus (payload : List Byte) : Statement (.rx8002MotionStatus payload) := fun _ => rfl
theorem rx8082MotionStatus (payload : List Byte) : Statement (.rx8082MotionStatus payload) := fun _ => rfl
theorem rx8003MovementSigns (payload : List Byte) : Statement (.rx8003MovementSigns payload) := fun _ => rfl
theorem rx8083MovementSigns (payload : List Byte) : Statement (.rx8083MovementSigns payload) := fun _ => rfl
theorem rx800BKeepAway (payload : List Byte) : Statement (.rx800BKeepAway payload) := fun _ => rfl
theorem rx808BKeepAway (payload : List Byte) : Statement (.rx808BKeepAway payload) := fun _ => rfl
theorem rx800AInert (payload : List Byte) : Statement (.rx800AInert payload) := fun _ => rfl
theorem rx808AInert (payload : List Byte) : Statement (.rx808AInert payload) := fun _ => rfl
theorem rx80XXUnknown (cmd : Byte) (payload : List Byte) : Statement (.rx80XXUnknown cmd payload) := by
  intro h
  simp only [Instr.wellFormed, knownCommands80, Bool.and_eq_true, Bool.not_eq_true', List.contains_eq_mem,
    decide_eq_false_iff_not, List.mem_cons, List.not_mem_nil, or_false, not_or] at h
  show Except.ok (decodePresence cmd payload) = _
  simp only [decodePresence, h, if_false]
theorem rxXXXXUnknown (ctrl : Byte) (cmd : Byte) (payload : List Byte) : Statement (.rxXXXXUnknown ctrl cmd payload) := by
  intro h
  simp only [Instr.wellFormed, knownControls, Bool.and_eq_true, Bool.not_eq_true', List.contains_eq_mem, decide_eq_false_iff_not,
    List.mem_cons, List.not_mem_nil, or_false, not_or] at h
  simp only [decodeParts, Instr.parts, decodeKey, h, if_false]
theorem txHeartbeat (arg : Byte) : Statement (.txHeartbeat arg) := fun _ => rfl
theorem txQueryOutputSwitch (arg : Byte) : Statement (.txQueryOutputSwitch arg) := fun _ => rfl
theorem txQueryProductMode (arg : Byte) : Statement (.txQueryProductMode arg) := fun _ => rfl
theorem txQueryProductId (arg : Byte) : Statement (.txQueryProductId arg) := fun _ => rfl
theorem txQueryHardwareModel (arg : Byte) : Statement (.txQueryHardwareModel arg) := fun _ => rfl
theorem txQueryFirmwareVersion (arg : Byte) : Statement (.txQueryFirmwareVersion arg) := fun _ => rfl
theorem txQueryHumanStatus (arg : Byte) : Statement (.txQueryHumanStatus arg) := fun _ => rfl
theorem txQueryKeepAway (arg : Byte) : Statement (.txQueryKeepAway arg) := fun _ => rfl
theorem txSetOutputSwitch (arg : Byte) : Statement (.txSetOutputSwitch arg) := fun _ => rfl
theorem txSetSceneMode (arg : Byte) : Statement (.txSetSceneMode arg) := fun _ => rfl

end Sys2Proof.Laws.KeyRoundTrip
end

