-- ==== Sys2Proof/Tests/Slice0.lean ====
section
/-! SUPPORT. Tests. Every expected value is the spec's: 95_test_vectors.md (the vector's name stands in the test's name), or the
rule that the section names. After them, for every obligation with hypotheses, states and operands that meet them. -/

set_option maxRecDepth 8000

namespace Sys2Proof.Tests

open Sys2Proof Sys2Proof.Machine Sys2Proof.Claims

/-! ### Well-formedness: one ill-formed term for each check (30_encoding R92, R94, R96) -/

/-- A payload of 33 bytes. -/
def longPayload : List Byte := List.replicate 33 0x00#8

theorem test_wf_longest_payload : (Instr.rx0101Heartbeat (List.replicate 32 0x00#8)).wellFormed = true := by decide
theorem test_wf_payload_too_long : (Instr.rx0101Heartbeat longPayload).wellFormed = false := by decide
theorem test_wf_unknown_payload_too_long : (Instr.rx80XXUnknown 0x04#8 longPayload).wellFormed = false := by decide
theorem test_wf_known_command_01 : (Instr.rx01XXUnknown 0x02#8 []).wellFormed = false := by decide
theorem test_wf_known_command_02 : (Instr.rx02XXUnknown 0xA4#8 []).wellFormed = false := by decide
theorem test_wf_known_command_05 : (Instr.rx05XXUnknown 0x89#8 []).wellFormed = false := by decide
theorem test_wf_known_command_08 : (Instr.rx08XXUnknown 0x8E#8 []).wellFormed = false := by decide
theorem test_wf_known_command_80 : (Instr.rx80XXUnknown 0x8A#8 []).wellFormed = false := by decide
theorem test_wf_known_control : (Instr.rxXXXXUnknown 0x80#8 0x00#8 []).wellFormed = false := by decide
theorem test_wf_unknown_control : (Instr.rxXXXXUnknown 0x81#8 0x01#8 []).wellFormed = true := by decide

/-! ### What the decoder refuses, by name (60_exceptions R338, 45_encoder R311) -/

theorem test_decode_truncated : decodeFrame [0x53#8, 0x59#8, 0x01#8] = .error .truncated := by rfl
theorem test_decode_bad_header1 : decodeFrame [0x59#8] = .error .badHeader1 := by rfl
theorem test_decode_bad_header2 : decodeFrame [0x53#8, 0x53#8] = .error .badHeader2 := by rfl
theorem test_decode_bad_length_high :
    decodeFrame [0x53#8, 0x59#8, 0x01#8, 0x01#8, 0x05#8] = .error .badLengthHigh := by rfl
theorem test_decode_too_long :
    decodeFrame [0x53#8, 0x59#8, 0x01#8, 0x01#8, 0x00#8, 0x21#8] = .error .tooLong := by rfl
theorem test_decode_length_256 :
    decodeFrame [0x53#8, 0x59#8, 0x01#8, 0x01#8, 0x01#8, 0x00#8] = .error .tooLong := by rfl
theorem test_decode_bad_tail1 :
    decodeFrame [0x53#8, 0x59#8, 0x01#8, 0x01#8, 0x00#8, 0x00#8, 0xAE#8, 0x55#8] = .error .badTail1 := by rfl
theorem test_decode_bad_tail2 :
    decodeFrame [0x53#8, 0x59#8, 0x01#8, 0x01#8, 0x00#8, 0x00#8, 0xAE#8, 0x54#8, 0x53#8] = .error .badTail2 := by rfl
theorem test_decode_bad_checksum :
    decodeFrame [0x53#8, 0x59#8, 0x08#8, 0x00#8, 0x00#8, 0x01#8, 0x01#8, 0xB7#8, 0x54#8, 0x43#8] = .error .badChecksum := by
  rfl
theorem test_decode_trailing_bytes :
    decode (.frame [0x53#8, 0x59#8, 0x01#8, 0x01#8, 0x00#8, 0x00#8, 0xAE#8, 0x54#8, 0x43#8, 0x00#8]) =
      .error .trailingBytes := by rfl
theorem test_decode_reserved_kinds :
    decodeRequest 10#4 0x00#8 = .error (.reservedKind 10#4) ∧ decodeRequest 15#4 0x00#8 = .error (.reservedKind 15#4) := by
  decide

/-! ### Decoding: one frame of 95_test_vectors part 2.4 for every inbound instruction -/

theorem test_decode_rx0101Heartbeat : decodeFrame [0x53#8, 0x59#8, 0x01#8, 0x01#8, 0x00#8, 0x01#8, 0x0F#8, 0xBE#8,
    0x54#8, 0x43#8] = .ok (.rx0101Heartbeat [0x0F#8], []) := by rfl

theorem test_decode_rx0102ResetAck : decodeFrame [0x53#8, 0x59#8, 0x01#8, 0x02#8, 0x00#8, 0x01#8, 0x0F#8, 0xBF#8,
    0x54#8, 0x43#8] = .ok (.rx0102ResetAck [0x0F#8], []) := by rfl

theorem test_decode_rx01XXUnknown : decodeFrame [0x53#8, 0x59#8, 0x01#8, 0x81#8, 0x00#8, 0x01#8, 0x00#8, 0x2F#8,
    0x54#8, 0x43#8] = .ok (.rx01XXUnknown 0x81#8 [0x00#8], []) := by rfl

theorem test_decode_rx02A1ProductModel : decodeFrame [0x53#8, 0x59#8, 0x02#8, 0xA1#8, 0x00#8, 0x03#8, 0x41#8,
    0x42#8, 0x43#8, 0x18#8, 0x54#8, 0x43#8] = .ok (.rx02A1ProductModel [0x41#8, 0x42#8, 0x43#8], []) := by rfl

theorem test_decode_rx02A2ProductId : decodeFrame [0x53#8, 0x59#8, 0x02#8, 0xA2#8, 0x00#8, 0x04#8, 0x49#8, 0x44#8,
    0x2D#8, 0x37#8, 0x45#8, 0x54#8, 0x43#8] = .ok (.rx02A2ProductId [0x49#8, 0x44#8, 0x2D#8, 0x37#8], []) := by rfl

theorem test_decode_rx02A3HardwareModel : decodeFrame [0x53#8, 0x59#8, 0x02#8, 0xA3#8, 0x00#8, 0x02#8, 0x48#8,
    0x57#8, 0xF2#8, 0x54#8, 0x43#8] = .ok (.rx02A3HardwareModel [0x48#8, 0x57#8], []) := by rfl

theorem test_decode_rx02A4FirmwareVersion : decodeFrame [0x53#8, 0x59#8, 0x02#8, 0xA4#8, 0x00#8, 0x04#8, 0x56#8,
    0x31#8, 0x2E#8, 0x30#8, 0x3B#8, 0x54#8, 0x43#8] = .ok (.rx02A4FirmwareVersion [0x56#8, 0x31#8, 0x2E#8, 0x30#8],
    []) := by rfl

theorem test_decode_rx02XXUnknown : decodeFrame [0x53#8, 0x59#8, 0x02#8, 0xA5#8, 0x00#8, 0x01#8, 0x0F#8, 0x63#8,
    0x54#8, 0x43#8] = .ok (.rx02XXUnknown 0xA5#8 [0x0F#8], []) := by rfl

theorem test_decode_rx0501InitStatus : decodeFrame [0x53#8, 0x59#8, 0x05#8, 0x01#8, 0x00#8, 0x01#8, 0x01#8, 0xB4#8,
    0x54#8, 0x43#8] = .ok (.rx0501InitStatus [0x01#8], []) := by rfl

theorem test_decode_rx0581InitStatus : decodeFrame [0x53#8, 0x59#8, 0x05#8, 0x81#8, 0x00#8, 0x01#8, 0x00#8, 0x33#8,
    0x54#8, 0x43#8] = .ok (.rx0581InitStatus [0x00#8], []) := by rfl

theorem test_decode_rx0587SceneMode : decodeFrame [0x53#8, 0x59#8, 0x05#8, 0x87#8, 0x00#8, 0x01#8, 0x01#8, 0x3A#8,
    0x54#8, 0x43#8] = .ok (.rx0587SceneMode [0x01#8], []) := by rfl

theorem test_decode_rx0507Inert : decodeFrame [0x53#8, 0x59#8, 0x05#8, 0x07#8, 0x00#8, 0x01#8, 0x01#8, 0xBA#8,
    0x54#8, 0x43#8] = .ok (.rx0507Inert [0x01#8], []) := by rfl

theorem test_decode_rx0508Inert : decodeFrame [0x53#8, 0x59#8, 0x05#8, 0x08#8, 0x00#8, 0x01#8, 0x01#8, 0xBB#8,
    0x54#8, 0x43#8] = .ok (.rx0508Inert [0x01#8], []) := by rfl

theorem test_decode_rx0509Inert : decodeFrame [0x53#8, 0x59#8, 0x05#8, 0x09#8, 0x00#8, 0x01#8, 0x01#8, 0xBC#8,
    0x54#8, 0x43#8] = .ok (.rx0509Inert [0x01#8], []) := by rfl

theorem test_decode_rx0588Inert : decodeFrame [0x53#8, 0x59#8, 0x05#8, 0x88#8, 0x00#8, 0x01#8, 0x01#8, 0x3B#8,
    0x54#8, 0x43#8] = .ok (.rx0588Inert [0x01#8], []) := by rfl

theorem test_decode_rx0589Inert : decodeFrame [0x53#8, 0x59#8, 0x05#8, 0x89#8, 0x00#8, 0x01#8, 0x01#8, 0x3C#8,
    0x54#8, 0x43#8] = .ok (.rx0589Inert [0x01#8], []) := by rfl

theorem test_decode_rx05XXUnknown : decodeFrame [0x53#8, 0x59#8, 0x05#8, 0x0A#8, 0x00#8, 0x01#8, 0x00#8, 0xBC#8,
    0x54#8, 0x43#8] = .ok (.rx05XXUnknown 0x0A#8 [0x00#8], []) := by rfl

theorem test_decode_rx0800OutputSwitch : decodeFrame [0x53#8, 0x59#8, 0x08#8, 0x00#8, 0x00#8, 0x01#8, 0x01#8,
    0xB6#8, 0x54#8, 0x43#8] = .ok (.rx0800OutputSwitch [0x01#8], []) := by rfl

theorem test_decode_rx0880OutputSwitch : decodeFrame [0x53#8, 0x59#8, 0x08#8, 0x80#8, 0x00#8, 0x01#8, 0x01#8,
    0x36#8, 0x54#8, 0x43#8] = .ok (.rx0880OutputSwitch [0x01#8], []) := by rfl

theorem test_decode_rx0801PackedFields : decodeFrame [0x53#8, 0x59#8, 0x08#8, 0x01#8, 0x00#8, 0x05#8, 0x20#8,
    0x06#8, 0x31#8, 0x04#8, 0x0C#8, 0x21#8, 0x54#8, 0x43#8] = .ok (.rx0801PackedFields [0x20#8, 0x06#8, 0x31#8,
    0x04#8, 0x0C#8], []) := by rfl

theorem test_decode_rx0881StaticValue : decodeFrame [0x53#8, 0x59#8, 0x08#8, 0x81#8, 0x00#8, 0x01#8, 0x40#8, 0x76#8,
    0x54#8, 0x43#8] = .ok (.rx0881StaticValue [0x40#8], []) := by rfl

theorem test_decode_rx0882DetectionDistance : decodeFrame [0x53#8, 0x59#8, 0x08#8, 0x82#8, 0x00#8, 0x01#8, 0x07#8,
    0x3E#8, 0x54#8, 0x43#8] = .ok (.rx0882DetectionDistance [0x07#8], []) := by rfl

theorem test_decode_rx0883MotionValue : decodeFrame [0x53#8, 0x59#8, 0x08#8, 0x83#8, 0x00#8, 0x01#8, 0x55#8, 0x8D#8,
    0x54#8, 0x43#8] = .ok (.rx0883MotionValue [0x55#8], []) := by rfl

theorem test_decode_rx0884MotionDistance : decodeFrame [0x53#8, 0x59#8, 0x08#8, 0x84#8, 0x00#8, 0x01#8, 0xFF#8,
    0x38#8, 0x54#8, 0x43#8] = .ok (.rx0884MotionDistance [0xFF#8], []) := by rfl

theorem test_decode_rx0885MotionSpeed : decodeFrame [0x53#8, 0x59#8, 0x08#8, 0x85#8, 0x00#8, 0x01#8, 0x0E#8, 0x48#8,
    0x54#8, 0x43#8] = .ok (.rx0885MotionSpeed [0x0E#8], []) := by rfl

theorem test_decode_rx0806KeepAway : decodeFrame [0x53#8, 0x59#8, 0x08#8, 0x06#8, 0x00#8, 0x01#8, 0x00#8, 0xBB#8,
    0x54#8, 0x43#8] = .ok (.rx0806KeepAway [0x00#8], []) := by rfl

theorem test_decode_rx0886KeepAway : decodeFrame [0x53#8, 0x59#8, 0x08#8, 0x86#8, 0x00#8, 0x01#8, 0x01#8, 0x3C#8,
    0x54#8, 0x43#8] = .ok (.rx0886KeepAway [0x01#8], []) := by rfl

theorem test_decode_rx0807MovementSigns : decodeFrame [0x53#8, 0x59#8, 0x08#8, 0x07#8, 0x00#8, 0x01#8, 0x2A#8,
    0xE6#8, 0x54#8, 0x43#8] = .ok (.rx0807MovementSigns [0x2A#8], []) := by rfl

theorem test_decode_rx0887MovementSigns : decodeFrame [0x53#8, 0x59#8, 0x08#8, 0x87#8, 0x00#8, 0x01#8, 0x00#8,
    0x3C#8, 0x54#8, 0x43#8] = .ok (.rx0887MovementSigns [0x00#8], []) := by rfl

theorem test_decode_rx0808Inert : decodeFrame [0x53#8, 0x59#8, 0x08#8, 0x08#8, 0x00#8, 0x01#8, 0x05#8, 0xC2#8,
    0x54#8, 0x43#8] = .ok (.rx0808Inert [0x05#8], []) := by rfl

theorem test_decode_rx0809Inert : decodeFrame [0x53#8, 0x59#8, 0x08#8, 0x09#8, 0x00#8, 0x01#8, 0x05#8, 0xC3#8,
    0x54#8, 0x43#8] = .ok (.rx0809Inert [0x05#8], []) := by rfl

theorem test_decode_rx080AInert : decodeFrame [0x53#8, 0x59#8, 0x08#8, 0x0A#8, 0x00#8, 0x01#8, 0x05#8, 0xC4#8,
    0x54#8, 0x43#8] = .ok (.rx080AInert [0x05#8], []) := by rfl

theorem test_decode_rx080BInert : decodeFrame [0x53#8, 0x59#8, 0x08#8, 0x0B#8, 0x00#8, 0x01#8, 0x05#8, 0xC5#8,
    0x54#8, 0x43#8] = .ok (.rx080BInert [0x05#8], []) := by rfl

theorem test_decode_rx080CInert : decodeFrame [0x53#8, 0x59#8, 0x08#8, 0x0C#8, 0x00#8, 0x01#8, 0x05#8, 0xC6#8,
    0x54#8, 0x43#8] = .ok (.rx080CInert [0x05#8], []) := by rfl

theorem test_decode_rx080DInert : decodeFrame [0x53#8, 0x59#8, 0x08#8, 0x0D#8, 0x00#8, 0x01#8, 0x05#8, 0xC7#8,
    0x54#8, 0x43#8] = .ok (.rx080DInert [0x05#8], []) := by rfl

theorem test_decode_rx080EInert : decodeFrame [0x53#8, 0x59#8, 0x08#8, 0x0E#8, 0x00#8, 0x01#8, 0x05#8, 0xC8#8,
    0x54#8, 0x43#8] = .ok (.rx080EInert [0x05#8], []) := by rfl

theorem test_decode_rx0888Inert : decodeFrame [0x53#8, 0x59#8, 0x08#8, 0x88#8, 0x00#8, 0x01#8, 0x05#8, 0x42#8,
    0x54#8, 0x43#8] = .ok (.rx0888Inert [0x05#8], []) := by rfl

theorem test_decode_rx0889Inert : decodeFrame [0x53#8, 0x59#8, 0x08#8, 0x89#8, 0x00#8, 0x01#8, 0x05#8, 0x43#8,
    0x54#8, 0x43#8] = .ok (.rx0889Inert [0x05#8], []) := by rfl

theorem test_decode_rx088AInert : decodeFrame [0x53#8, 0x59#8, 0x08#8, 0x8A#8, 0x00#8, 0x01#8, 0x05#8, 0x44#8,
    0x54#8, 0x43#8] = .ok (.rx088AInert [0x05#8], []) := by rfl

theorem test_decode_rx088BInert : decodeFrame [0x53#8, 0x59#8, 0x08#8, 0x8B#8, 0x00#8, 0x01#8, 0x05#8, 0x45#8,
    0x54#8, 0x43#8] = .ok (.rx088BInert [0x05#8], []) := by rfl

theorem test_decode_rx088CInert : decodeFrame [0x53#8, 0x59#8, 0x08#8, 0x8C#8, 0x00#8, 0x01#8, 0x05#8, 0x46#8,
    0x54#8, 0x43#8] = .ok (.rx088CInert [0x05#8], []) := by rfl

theorem test_decode_rx088DInert : decodeFrame [0x53#8, 0x59#8, 0x08#8, 0x8D#8, 0x00#8, 0x01#8, 0x05#8, 0x47#8,
    0x54#8, 0x43#8] = .ok (.rx088DInert [0x05#8], []) := by rfl

theorem test_decode_rx088EInert : decodeFrame [0x53#8, 0x59#8, 0x08#8, 0x8E#8, 0x00#8, 0x01#8, 0x05#8, 0x48#8,
    0x54#8, 0x43#8] = .ok (.rx088EInert [0x05#8], []) := by rfl

theorem test_decode_rx08XXUnknown : decodeFrame [0x53#8, 0x59#8, 0x08#8, 0x02#8, 0x00#8, 0x01#8, 0x00#8, 0xB7#8,
    0x54#8, 0x43#8] = .ok (.rx08XXUnknown 0x02#8 [0x00#8], []) := by rfl

theorem test_decode_rx8001HumanPresence : decodeFrame [0x53#8, 0x59#8, 0x80#8, 0x01#8, 0x00#8, 0x01#8, 0x00#8,
    0x2E#8, 0x54#8, 0x43#8] = .ok (.rx8001HumanPresence [0x00#8], []) := by rfl

theorem test_decode_rx8081HumanPresence : decodeFrame [0x53#8, 0x59#8, 0x80#8, 0x81#8, 0x00#8, 0x01#8, 0x01#8,
    0xAF#8, 0x54#8, 0x43#8] = .ok (.rx8081HumanPresence [0x01#8], []) := by rfl

theorem test_decode_rx8002MotionStatus : decodeFrame [0x53#8, 0x59#8, 0x80#8, 0x02#8, 0x00#8, 0x01#8, 0x00#8,
    0x2F#8, 0x54#8, 0x43#8] = .ok (.rx8002MotionStatus [0x00#8], []) := by rfl

theorem test_decode_rx8082MotionStatus : decodeFrame [0x53#8, 0x59#8, 0x80#8, 0x82#8, 0x00#8, 0x01#8, 0x02#8,
    0xB1#8, 0x54#8, 0x43#8] = .ok (.rx8082MotionStatus [0x02#8], []) := by rfl

theorem test_decode_rx8003MovementSigns : decodeFrame [0x53#8, 0x59#8, 0x80#8, 0x03#8, 0x00#8, 0x01#8, 0x10#8,
    0x40#8, 0x54#8, 0x43#8] = .ok (.rx8003MovementSigns [0x10#8], []) := by rfl

theorem test_decode_rx8083MovementSigns : decodeFrame [0x53#8, 0x59#8, 0x80#8, 0x83#8, 0x00#8, 0x01#8, 0x00#8,
    0xB0#8, 0x54#8, 0x43#8] = .ok (.rx8083MovementSigns [0x00#8], []) := by rfl

theorem test_decode_rx800BKeepAway : decodeFrame [0x53#8, 0x59#8, 0x80#8, 0x0B#8, 0x00#8, 0x01#8, 0x00#8, 0x38#8,
    0x54#8, 0x43#8] = .ok (.rx800BKeepAway [0x00#8], []) := by rfl

theorem test_decode_rx808BKeepAway : decodeFrame [0x53#8, 0x59#8, 0x80#8, 0x8B#8, 0x00#8, 0x01#8, 0x02#8, 0xBA#8,
    0x54#8, 0x43#8] = .ok (.rx808BKeepAway [0x02#8], []) := by rfl

theorem test_decode_rx800AInert : decodeFrame [0x53#8, 0x59#8, 0x80#8, 0x0A#8, 0x00#8, 0x01#8, 0x02#8, 0x39#8,
    0x54#8, 0x43#8] = .ok (.rx800AInert [0x02#8], []) := by rfl

theorem test_decode_rx808AInert : decodeFrame [0x53#8, 0x59#8, 0x80#8, 0x8A#8, 0x00#8, 0x01#8, 0x02#8, 0xB9#8,
    0x54#8, 0x43#8] = .ok (.rx808AInert [0x02#8], []) := by rfl

theorem test_decode_rx80XXUnknown : decodeFrame [0x53#8, 0x59#8, 0x80#8, 0x04#8, 0x00#8, 0x01#8, 0x00#8, 0x31#8,
    0x54#8, 0x43#8] = .ok (.rx80XXUnknown 0x04#8 [0x00#8], []) := by rfl

theorem test_decode_rxXXXXUnknown : decodeFrame [0x53#8, 0x59#8, 0x00#8, 0x00#8, 0x00#8, 0x00#8, 0xAC#8, 0x54#8,
    0x43#8] = .ok (.rxXXXXUnknown 0x00#8 0x00#8 [], []) := by rfl

/-! ### Request codes (30_encoding R103) and words of opcode_table.json (log 7) -/

theorem test_decode_txHeartbeat : decodeRequest 0#4 0xA5#8 = .ok (.txHeartbeat 0xA5#8) := by rfl
theorem test_decode_txQueryOutputSwitch : decodeRequest 1#4 0xA5#8 = .ok (.txQueryOutputSwitch 0xA5#8) := by rfl
theorem test_decode_txQueryProductMode : decodeRequest 2#4 0xA5#8 = .ok (.txQueryProductMode 0xA5#8) := by rfl
theorem test_decode_txQueryProductId : decodeRequest 3#4 0xA5#8 = .ok (.txQueryProductId 0xA5#8) := by rfl
theorem test_decode_txQueryHardwareModel : decodeRequest 4#4 0xA5#8 = .ok (.txQueryHardwareModel 0xA5#8) := by rfl
theorem test_decode_txQueryFirmwareVersion : decodeRequest 5#4 0xA5#8 = .ok (.txQueryFirmwareVersion 0xA5#8) := by rfl
theorem test_decode_txQueryHumanStatus : decodeRequest 6#4 0xA5#8 = .ok (.txQueryHumanStatus 0xA5#8) := by rfl
theorem test_decode_txQueryKeepAway : decodeRequest 7#4 0xA5#8 = .ok (.txQueryKeepAway 0xA5#8) := by rfl
theorem test_decode_txSetOutputSwitch : decodeRequest 8#4 0xA5#8 = .ok (.txSetOutputSwitch 0xA5#8) := by rfl
theorem test_decode_txSetSceneMode : decodeRequest 9#4 0xA5#8 = .ok (.txSetSceneMode 0xA5#8) := by rfl
theorem test_tableWord_keys :
    decodeTableWord 16 0x0101 = some (.rx0101Heartbeat []) ∧ decodeTableWord 16 0x0887 = some (.rx0887MovementSigns []) ∧
    decodeTableWord 16 0x8000 = some (.rx80XXUnknown 0x00#8 []) ∧
    decodeTableWord 16 0x0000 = some (.rxXXXXUnknown 0x00#8 0x00#8 []) ∧
    decodeTableWord 0 0 = some (.rxXXXXUnknown 0x00#8 0x00#8 []) := by
  refine ⟨?_, ?_, ?_, ?_, ?_⟩ <;> rfl
theorem test_tableWord_requests :
    decodeTableWord 8 0x0 = some (.txHeartbeat 0x00#8) ∧ decodeTableWord 16 0x8 = some (.txSetOutputSwitch 0x00#8) ∧
    decodeTableWord 8 0x9 = some (.txSetSceneMode 0x00#8) ∧ decodeTableWord 8 0xA = none := by
  refine ⟨?_, ?_, ?_, ?_⟩ <;> rfl
theorem test_tableWord_frame : decodeTableWord 80 0x4354B601010000085953 = some (.txSetOutputSwitch 0x01#8) := by rfl

/-! ### The last byte of a frame: at most two vectors of 95_test_vectors part 2.4 for every inbound instruction -/

/-- The block when the last byte of a frame is presented: the registers as the Framer leaves them. -/
def beforeTail (ctrl cmd : Byte) (payload : List Byte) (crc : Byte) : State :=
  { State.reset with
    st := .expectT2, ctrl := ctrl, cmd := cmd, len := BitVec.ofNat 16 payload.length
    cnt := BitVec.ofNat 6 payload.length
    buf := (List.range payload.length).foldl (fun m k => Memory.write m k (payload.getD k 0x00#8)) []
    crc := crc, inputs := [byteInput 0x43#8] }

/-- The RX outputs and the Framer state after a step. -/
def outputs : StepResult → Option (List Event × Diag × FramerState)
  | .next t => some (t.ev, t.diag, t.st)
  | .fault _ => none
  | .refused _ => none

/-- The TX outputs after a step. -/
def txOutputs : StepResult → Option (Bool × List Byte)
  | .next t => some (t.txValid, t.txFrame)
  | .fault _ => none
  | .refused _ => none

theorem test_exec_DV1_rx0101Heartbeat : outputs (step (beforeTail 0x01#8 0x01#8 [0x0F#8] 0xBE#8)) = some
    ([.heartbeat], .none, .idle) := by rfl

theorem test_exec_DV2_rx0101Heartbeat : outputs (step (beforeTail 0x01#8 0x01#8 [] 0xAE#8)) = some ([.heartbeat],
    .none, .idle) := by rfl

theorem test_exec_DV3_rx0102ResetAck : outputs (step (beforeTail 0x01#8 0x02#8 [0x0F#8] 0xBF#8)) = some ([],
    .resetAck, .idle) := by rfl

theorem test_exec_DV4_rx01XXUnknown : outputs (step (beforeTail 0x01#8 0x81#8 [0x00#8] 0x2F#8)) = some
    ([.unrecognized 0x01#8 0x81#8], .unknownCommand, .idle) := by rfl

theorem test_exec_DV9_rx02A1ProductModel : outputs (step (beforeTail 0x02#8 0xA1#8 [] 0x4F#8)) = some
    ([.productModel []], .none, .idle) := by rfl

theorem test_exec_DV10_rx02A1ProductModel : outputs (step (beforeTail 0x02#8 0xA1#8 [0x41#8, 0x00#8, 0x42#8]
    0xD5#8)) = some ([.productModel [0x41#8, 0x00#8, 0x42#8]], .none, .idle) := by rfl

theorem test_exec_DV7_rx02A3HardwareModel : outputs (step (beforeTail 0x02#8 0xA3#8 [0x48#8, 0x57#8] 0xF2#8)) = some
    ([.hardwareModel [0x48#8, 0x57#8]], .none, .idle) := by rfl

theorem test_exec_DV11_rx02XXUnknown : outputs (step (beforeTail 0x02#8 0xA5#8 [0x0F#8] 0x63#8)) = some
    ([.unrecognized 0x02#8 0xA5#8], .unknownCommand, .idle) := by rfl

theorem test_exec_DV12_rx0501InitStatus : outputs (step (beforeTail 0x05#8 0x01#8 [0x01#8] 0xB4#8)) = some ([],
    .initStatus, .idle) := by rfl

theorem test_exec_DV13_rx0581InitStatus : outputs (step (beforeTail 0x05#8 0x81#8 [0x00#8] 0x33#8)) = some ([],
    .initStatus, .idle) := by rfl

theorem test_exec_DV18_rx0587SceneMode : outputs (step (beforeTail 0x05#8 0x87#8 [] 0x38#8)) = some ([],
    .payloadOutOfRange, .idle) := by rfl

theorem test_exec_DV19_rx0507Inert : outputs (step (beforeTail 0x05#8 0x07#8 [0x01#8] 0xBA#8)) = some ([],
    .inertCommand, .idle) := by rfl

theorem test_exec_DV20_rx0508Inert : outputs (step (beforeTail 0x05#8 0x08#8 [0x01#8] 0xBB#8)) = some ([],
    .inertCommand, .idle) := by rfl

theorem test_exec_DV21_rx0509Inert : outputs (step (beforeTail 0x05#8 0x09#8 [0x01#8] 0xBC#8)) = some ([],
    .inertCommand, .idle) := by rfl

theorem test_exec_DV22_rx0588Inert : outputs (step (beforeTail 0x05#8 0x88#8 [0x01#8] 0x3B#8)) = some ([],
    .inertCommand, .idle) := by rfl

theorem test_exec_DV23_rx0589Inert : outputs (step (beforeTail 0x05#8 0x89#8 [0x01#8] 0x3C#8)) = some ([],
    .inertCommand, .idle) := by rfl

theorem test_exec_DV24_rx05XXUnknown : outputs (step (beforeTail 0x05#8 0x0A#8 [0x00#8] 0xBC#8)) = some
    ([.unrecognized 0x05#8 0x0A#8], .unknownCommand, .idle) := by rfl

theorem test_exec_DV26_rx0800OutputSwitch : outputs (step (beforeTail 0x08#8 0x00#8 [0x00#8] 0xB5#8)) = some
    ([.outputSwitch false], .none, .idle) := by rfl

theorem test_exec_DV27_rx0800OutputSwitch : outputs (step (beforeTail 0x08#8 0x00#8 [0xFF#8] 0xB4#8)) = some
    ([.outputSwitch true], .none, .idle) := by rfl

theorem test_exec_DV29_rx0880OutputSwitch : outputs (step (beforeTail 0x08#8 0x80#8 [0x01#8] 0x36#8)) = some
    ([.outputSwitch true], .none, .idle) := by rfl

theorem test_exec_DV30_rx0801PackedFields : outputs (step (beforeTail 0x08#8 0x01#8 [0x20#8, 0x06#8, 0x31#8, 0x04#8,
    0x0C#8] 0x21#8)) = some ([.spatialStaticValue 0x20#8, .presenceDetectionDistance 0x06#8, .spatialMotionValue
    0x31#8, .motionDistance 0x04#8, .motionSpeed (2)], .none, .idle) := by rfl

theorem test_exec_DV32_rx0801PackedFields : outputs (step (beforeTail 0x08#8 0x01#8 [0x01#8, 0x02#8, 0x03#8, 0x04#8]
    0xC3#8)) = some ([], .payloadOutOfRange, .idle) := by rfl

theorem test_exec_DV34_rx0881StaticValue : outputs (step (beforeTail 0x08#8 0x81#8 [0x40#8] 0x76#8)) = some
    ([.spatialStaticValue 0x40#8], .none, .idle) := by rfl

theorem test_exec_DV35_rx0882DetectionDistance : outputs (step (beforeTail 0x08#8 0x82#8 [0x07#8] 0x3E#8)) = some
    ([.presenceDetectionDistance 0x07#8], .none, .idle) := by rfl

theorem test_exec_DV36_rx0883MotionValue : outputs (step (beforeTail 0x08#8 0x83#8 [0x55#8] 0x8D#8)) = some
    ([.spatialMotionValue 0x55#8], .none, .idle) := by rfl

theorem test_exec_DV37_rx0884MotionDistance : outputs (step (beforeTail 0x08#8 0x84#8 [0xFF#8] 0x38#8)) = some
    ([.motionDistance 0xFF#8], .none, .idle) := by rfl

theorem test_exec_DV40_rx0885MotionSpeed : outputs (step (beforeTail 0x08#8 0x85#8 [0x00#8] 0x3A#8)) = some
    ([.motionSpeed (-10)], .none, .idle) := by rfl

theorem test_exec_DV41_rx0885MotionSpeed : outputs (step (beforeTail 0x08#8 0x85#8 [] 0x39#8)) = some ([],
    .payloadOutOfRange, .idle) := by rfl

theorem test_exec_DV43_rx0806KeepAway : outputs (step (beforeTail 0x08#8 0x06#8 [0x02#8] 0xBD#8)) = some
    ([.keepAwayState .farAway], .none, .idle) := by rfl

theorem test_exec_DV44_rx0806KeepAway : outputs (step (beforeTail 0x08#8 0x06#8 [0x03#8] 0xBE#8)) = some ([],
    .payloadOutOfRange, .idle) := by rfl

theorem test_exec_DV45_rx0886KeepAway : outputs (step (beforeTail 0x08#8 0x86#8 [0x01#8] 0x3C#8)) = some
    ([.keepAwayState .closeTo], .none, .idle) := by rfl

theorem test_exec_DV46_rx0886KeepAway : outputs (step (beforeTail 0x08#8 0x86#8 [0xFF#8] 0x3A#8)) = some ([],
    .payloadOutOfRange, .idle) := by rfl

theorem test_exec_DV47_rx0807MovementSigns : outputs (step (beforeTail 0x08#8 0x07#8 [0x2A#8] 0xE6#8)) = some
    ([.movementSigns 0x2A#8], .none, .idle) := by rfl

theorem test_exec_DV48_rx0887MovementSigns : outputs (step (beforeTail 0x08#8 0x87#8 [0x00#8] 0x3C#8)) = some
    ([.movementSigns 0x00#8], .none, .idle) := by rfl

theorem test_exec_DV49_rx0887MovementSigns : outputs (step (beforeTail 0x08#8 0x87#8 [] 0x3B#8)) = some ([],
    .payloadOutOfRange, .idle) := by rfl

theorem test_exec_DV50_rx0808Inert : outputs (step (beforeTail 0x08#8 0x08#8 [0x05#8] 0xC2#8)) = some ([],
    .inertCommand, .idle) := by rfl

theorem test_exec_DV51_rx0809Inert : outputs (step (beforeTail 0x08#8 0x09#8 [0x05#8] 0xC3#8)) = some ([],
    .inertCommand, .idle) := by rfl

theorem test_exec_DV52_rx080AInert : outputs (step (beforeTail 0x08#8 0x0A#8 [0x05#8] 0xC4#8)) = some ([],
    .inertCommand, .idle) := by rfl

theorem test_exec_DV53_rx080BInert : outputs (step (beforeTail 0x08#8 0x0B#8 [0x05#8] 0xC5#8)) = some ([],
    .inertCommand, .idle) := by rfl

theorem test_exec_DV54_rx080CInert : outputs (step (beforeTail 0x08#8 0x0C#8 [0x05#8] 0xC6#8)) = some ([],
    .inertCommand, .idle) := by rfl

theorem test_exec_DV55_rx080DInert : outputs (step (beforeTail 0x08#8 0x0D#8 [0x05#8] 0xC7#8)) = some ([],
    .inertCommand, .idle) := by rfl

theorem test_exec_DV56_rx080EInert : outputs (step (beforeTail 0x08#8 0x0E#8 [0x05#8] 0xC8#8)) = some ([],
    .inertCommand, .idle) := by rfl

theorem test_exec_DV57_rx0888Inert : outputs (step (beforeTail 0x08#8 0x88#8 [0x05#8] 0x42#8)) = some ([],
    .inertCommand, .idle) := by rfl

theorem test_exec_DV58_rx0889Inert : outputs (step (beforeTail 0x08#8 0x89#8 [0x05#8] 0x43#8)) = some ([],
    .inertCommand, .idle) := by rfl

theorem test_exec_DV59_rx088AInert : outputs (step (beforeTail 0x08#8 0x8A#8 [0x05#8] 0x44#8)) = some ([],
    .inertCommand, .idle) := by rfl

theorem test_exec_DV60_rx088BInert : outputs (step (beforeTail 0x08#8 0x8B#8 [0x05#8] 0x45#8)) = some ([],
    .inertCommand, .idle) := by rfl

theorem test_exec_DV61_rx088CInert : outputs (step (beforeTail 0x08#8 0x8C#8 [0x05#8] 0x46#8)) = some ([],
    .inertCommand, .idle) := by rfl

theorem test_exec_DV62_rx088DInert : outputs (step (beforeTail 0x08#8 0x8D#8 [0x05#8] 0x47#8)) = some ([],
    .inertCommand, .idle) := by rfl

theorem test_exec_DV63_rx088EInert : outputs (step (beforeTail 0x08#8 0x8E#8 [0x05#8] 0x48#8)) = some ([],
    .inertCommand, .idle) := by rfl

theorem test_exec_DV64_rx08XXUnknown : outputs (step (beforeTail 0x08#8 0x02#8 [0x00#8] 0xB7#8)) = some
    ([.unrecognized 0x08#8 0x02#8], .unknownCommand, .idle) := by rfl

theorem test_exec_DV66_rx08XXUnknown : outputs (step (beforeTail 0x08#8 0x8F#8 [0x00#8] 0x44#8)) = some
    ([.unrecognized 0x08#8 0x8F#8], .unknownCommand, .idle) := by rfl

theorem test_exec_DV68_rx8001HumanPresence : outputs (step (beforeTail 0x80#8 0x01#8 [0x01#8] 0x2F#8)) = some
    ([.humanPresence true], .none, .idle) := by rfl

theorem test_exec_DV69_rx8001HumanPresence : outputs (step (beforeTail 0x80#8 0x01#8 [0x02#8] 0x30#8)) = some ([],
    .payloadOutOfRange, .idle) := by rfl

theorem test_exec_DV70_rx8081HumanPresence : outputs (step (beforeTail 0x80#8 0x81#8 [0x01#8] 0xAF#8)) = some
    ([.humanPresence true], .none, .idle) := by rfl

theorem test_exec_DV71_rx8081HumanPresence : outputs (step (beforeTail 0x80#8 0x81#8 [] 0xAD#8)) = some ([],
    .payloadOutOfRange, .idle) := by rfl

theorem test_exec_DV72_rx8002MotionStatus : outputs (step (beforeTail 0x80#8 0x02#8 [0x00#8] 0x2F#8)) = some
    ([.motionStatus .none], .none, .idle) := by rfl

theorem test_exec_DV73_rx8002MotionStatus : outputs (step (beforeTail 0x80#8 0x02#8 [0x01#8] 0x30#8)) = some
    ([.motionStatus .still], .none, .idle) := by rfl

theorem test_exec_DV74_rx8082MotionStatus : outputs (step (beforeTail 0x80#8 0x82#8 [0x02#8] 0xB1#8)) = some
    ([.motionStatus .active], .none, .idle) := by rfl

theorem test_exec_DV75_rx8082MotionStatus : outputs (step (beforeTail 0x80#8 0x82#8 [0x03#8] 0xB2#8)) = some ([],
    .payloadOutOfRange, .idle) := by rfl

theorem test_exec_DV76_rx8003MovementSigns : outputs (step (beforeTail 0x80#8 0x03#8 [0x10#8] 0x40#8)) = some
    ([.movementSigns 0x10#8], .none, .idle) := by rfl

theorem test_exec_DV77_rx8083MovementSigns : outputs (step (beforeTail 0x80#8 0x83#8 [0x00#8] 0xB0#8)) = some
    ([.movementSigns 0x00#8], .none, .idle) := by rfl

theorem test_exec_DV78_rx800BKeepAway : outputs (step (beforeTail 0x80#8 0x0B#8 [0x00#8] 0x38#8)) = some
    ([.keepAwayState .none], .none, .idle) := by rfl

theorem test_exec_DV79_rx800BKeepAway : outputs (step (beforeTail 0x80#8 0x0B#8 [0x01#8] 0x39#8)) = some
    ([.keepAwayState .closeTo], .none, .idle) := by rfl

theorem test_exec_DV80_rx808BKeepAway : outputs (step (beforeTail 0x80#8 0x8B#8 [0x02#8] 0xBA#8)) = some
    ([.keepAwayState .farAway], .none, .idle) := by rfl

theorem test_exec_DV81_rx808BKeepAway : outputs (step (beforeTail 0x80#8 0x8B#8 [0x03#8] 0xBB#8)) = some ([],
    .payloadOutOfRange, .idle) := by rfl

theorem test_exec_DV82_rx800AInert : outputs (step (beforeTail 0x80#8 0x0A#8 [0x02#8] 0x39#8)) = some ([],
    .inertCommand, .idle) := by rfl

theorem test_exec_DV83_rx808AInert : outputs (step (beforeTail 0x80#8 0x8A#8 [0x02#8] 0xB9#8)) = some ([],
    .inertCommand, .idle) := by rfl

theorem test_exec_DV84_rx80XXUnknown : outputs (step (beforeTail 0x80#8 0x04#8 [0x00#8] 0x31#8)) = some
    ([.unrecognized 0x80#8 0x04#8], .unknownCommand, .idle) := by rfl

theorem test_exec_DV85_rx80XXUnknown : outputs (step (beforeTail 0x80#8 0x00#8 [0x00#8] 0x2D#8)) = some
    ([.unrecognized 0x80#8 0x00#8], .unknownCommand, .idle) := by rfl

theorem test_exec_DV88_rxXXXXUnknown : outputs (step (beforeTail 0x53#8 0x59#8 [] 0x58#8)) = some ([.unrecognized
    0x53#8 0x59#8], .unknownCommand, .idle) := by rfl

theorem test_exec_DV89_rxXXXXUnknown : outputs (step (beforeTail 0xFF#8 0xFF#8 [0xFF#8] 0xAA#8)) = some
    ([.unrecognized 0xFF#8 0xFF#8], .unknownCommand, .idle) := by rfl

/-! ### The vectors that depend on an OPEN parameter, with the parameter's value as an argument -/

theorem test_DV6_text : textReport 33 .productId [0x49#8, 0x44#8, 0x2D#8, 0x37#8] =
    ⟨[.productId [0x49#8, 0x44#8, 0x2D#8, 0x37#8]], .none⟩ := by decide
theorem test_DV8_text : textReport 33 .firmwareVersion [0x56#8, 0x31#8, 0x2E#8, 0x30#8] =
    ⟨[.firmwareVersion [0x56#8, 0x31#8, 0x2E#8, 0x30#8]], .none⟩ := by decide
theorem test_DVP1_bound_4_accepts_3 : textReport 4 .productModel [0x41#8, 0x42#8, 0x43#8] =
    ⟨[.productModel [0x41#8, 0x42#8, 0x43#8]], .none⟩ := by decide
theorem test_DVP2_bound_4_refuses_4 : textReport 4 .productModel [0x41#8, 0x42#8, 0x43#8, 0x44#8] =
    ⟨[], .payloadOutOfRange⟩ := by decide
theorem test_DVP3_bound_32_refuses_32 : textReport 32 .productId (List.replicate 32 0x41#8) =
    ⟨[], .payloadOutOfRange⟩ := by decide
theorem test_DVP4_bound_33_accepts_32 : textReport 33 .productId (List.replicate 32 0x41#8) =
    ⟨[.productId (List.replicate 32 0x41#8)], .none⟩ := by decide
theorem test_DV14_first_scene : sceneIndex 4#8 0x01#8 = ⟨[.sceneMode 0x00#8], .none⟩ := by decide
theorem test_DV15_last_scene : sceneIndex 4#8 0x04#8 = ⟨[.sceneMode 0x03#8], .none⟩ := by decide
theorem test_DV16_scene_above_count : sceneIndex 4#8 0x05#8 = ⟨[], .payloadOutOfRange⟩ := by decide
theorem test_DV17_scene_zero : sceneIndex 4#8 0x00#8 = ⟨[], .payloadOutOfRange⟩ := by decide
theorem test_DVP5_no_scenes : sceneIndex 0#8 0x01#8 = ⟨[], .payloadOutOfRange⟩ := by decide
theorem test_DVP6_255_scenes : sceneIndex 255#8 0xFF#8 = ⟨[.sceneMode 0xFE#8], .none⟩ := by decide
theorem test_E15_scene_code : sceneCode [0x01#8, 0x02#8, 0x03#8, 0x04#8] 3#8 = some 0x04#8 := by decide
theorem test_E16_index_outside : sceneCode [0x01#8, 0x02#8, 0x03#8, 0x04#8] 4#8 = none := by decide
theorem test_E19_code_zero : sceneCode [0x01#8, 0x00#8, 0x03#8] 1#8 = none := by decide
theorem test_E22_no_codes : sceneCode [] 0#8 = none := by decide
theorem test_E20_frame_of_code_47 : outboundFrame 0x05#8 0x07#8 0x47#8 =
    [0x53#8, 0x59#8, 0x05#8, 0x07#8, 0x00#8, 0x01#8, 0x47#8, 0x00#8, 0x54#8, 0x43#8] := by decide
theorem test_E21_frame_of_code_FF : outboundFrame 0x05#8 0x07#8 0xFF#8 =
    [0x53#8, 0x59#8, 0x05#8, 0x07#8, 0x00#8, 0x01#8, 0xFF#8, 0xB8#8, 0x54#8, 0x43#8] := by decide

/-! ### Requests (95_test_vectors part 2.5) -/

theorem test_exec_E1_txHeartbeat : txOutputs (step { State.reset with inputs := [requestInput 0#4 0#8] }) =
    some (true, [0x53#8, 0x59#8, 0x01#8, 0x01#8, 0x00#8, 0x01#8, 0x0F#8, 0xBE#8, 0x54#8, 0x43#8]) := by rfl
theorem test_exec_E2_txQueryOutputSwitch : txOutputs (step { State.reset with inputs := [requestInput 1#4 0#8] }) =
    some (true, [0x53#8, 0x59#8, 0x08#8, 0x80#8, 0x00#8, 0x01#8, 0x0F#8, 0x44#8, 0x54#8, 0x43#8]) := by rfl
theorem test_exec_E3_txQueryProductMode : txOutputs (step { State.reset with inputs := [requestInput 2#4 0#8] }) =
    some (true, [0x53#8, 0x59#8, 0x02#8, 0xA1#8, 0x00#8, 0x01#8, 0x0F#8, 0x5F#8, 0x54#8, 0x43#8]) := by rfl
theorem test_exec_E4_txQueryProductId : txOutputs (step { State.reset with inputs := [requestInput 3#4 0#8] }) =
    some (true, [0x53#8, 0x59#8, 0x02#8, 0xA2#8, 0x00#8, 0x01#8, 0x0F#8, 0x60#8, 0x54#8, 0x43#8]) := by rfl
theorem test_exec_E5_txQueryHardwareModel : txOutputs (step { State.reset with inputs := [requestInput 4#4 0#8] }) =
    some (true, [0x53#8, 0x59#8, 0x02#8, 0xA3#8, 0x00#8, 0x01#8, 0x0F#8, 0x61#8, 0x54#8, 0x43#8]) := by rfl
theorem test_exec_E6_txQueryFirmwareVersion : txOutputs (step { State.reset with inputs := [requestInput 5#4 0#8] }) =
    some (true, [0x53#8, 0x59#8, 0x02#8, 0xA4#8, 0x00#8, 0x01#8, 0x0F#8, 0x62#8, 0x54#8, 0x43#8]) := by rfl
theorem test_exec_E7_txQueryHumanStatus : txOutputs (step { State.reset with inputs := [requestInput 6#4 0#8] }) =
    some (true, [0x53#8, 0x59#8, 0x80#8, 0x81#8, 0x00#8, 0x01#8, 0x0F#8, 0xBD#8, 0x54#8, 0x43#8]) := by rfl
theorem test_exec_E8_txQueryKeepAway : txOutputs (step { State.reset with inputs := [requestInput 7#4 0#8] }) =
    some (true, [0x53#8, 0x59#8, 0x80#8, 0x8B#8, 0x00#8, 0x01#8, 0x0F#8, 0xC7#8, 0x54#8, 0x43#8]) := by rfl
theorem test_exec_E9_txQueryKeepAway : txOutputs (step { State.reset with inputs := [requestInput 7#4 255#8] }) =
    some (true, [0x53#8, 0x59#8, 0x80#8, 0x8B#8, 0x00#8, 0x01#8, 0x0F#8, 0xC7#8, 0x54#8, 0x43#8]) := by rfl
theorem test_exec_E10_txSetOutputSwitch : txOutputs (step { State.reset with inputs := [requestInput 8#4 1#8] }) =
    some (true, [0x53#8, 0x59#8, 0x08#8, 0x00#8, 0x00#8, 0x01#8, 0x01#8, 0xB6#8, 0x54#8, 0x43#8]) := by rfl
theorem test_exec_E11_txSetOutputSwitch : txOutputs (step { State.reset with inputs := [requestInput 8#4 0#8] }) =
    some (true, [0x53#8, 0x59#8, 0x08#8, 0x00#8, 0x00#8, 0x01#8, 0x00#8, 0xB5#8, 0x54#8, 0x43#8]) := by rfl
theorem test_exec_E12_txSetOutputSwitch : txOutputs (step { State.reset with inputs := [requestInput 8#4 254#8] }) =
    some (true, [0x53#8, 0x59#8, 0x08#8, 0x00#8, 0x00#8, 0x01#8, 0x00#8, 0xB5#8, 0x54#8, 0x43#8]) := by rfl
theorem test_exec_E13_txSetOutputSwitch : txOutputs (step { State.reset with inputs := [requestInput 8#4 3#8] }) =
    some (true, [0x53#8, 0x59#8, 0x08#8, 0x00#8, 0x00#8, 0x01#8, 0x01#8, 0xB6#8, 0x54#8, 0x43#8]) := by rfl
theorem test_exec_E17_txReservedKind : txOutputs (step { State.reset with inputs := [requestInput 10#4 0#8] }) =
    some (false, []) := by rfl
theorem test_exec_E18_txReservedKind : txOutputs (step { State.reset with inputs := [requestInput 15#4 0#8] }) =
    some (false, []) := by rfl

/-! ### The Framer, one step from a given state (95_test_vectors part 2.1) -/

/-- A Framer state with these registers, the rest zero. -/
def framer (st : FramerState) (ctrl cmd : Byte) (len rem : BitVec 16) (cnt : BitVec 6) (crc : Byte) : State :=
  { State.reset with st := st, ctrl := ctrl, cmd := cmd, len := len, rem := rem, cnt := cnt, crc := crc }

/-- The next state and the RX outputs of one byte. -/
def after (b : Byte) (s : State) : Option (State × List Event × Diag) :=
  match rxStep b s with
  | .next t => some ({ t with ev := [], diag := .none }, t.ev, t.diag)
  | .fault _ => none
  | .refused _ => none

theorem test_F1 : after 0x53#8 (framer .idle 0x00#8 0x00#8 0 0 0 0x00#8) =
    some (framer .sawH1 0x00#8 0x00#8 0 0 0 0x00#8, [], .none) := by rfl
theorem test_F2 : after 0x59#8 (framer .idle 0x00#8 0x00#8 0 0 0 0x00#8) =
    some (framer .idle 0x00#8 0x00#8 0 0 0 0x00#8, [], .none) := by rfl
theorem test_F3 : after 0x00#8 (framer .idle 0x00#8 0x00#8 0 0 0 0x00#8) =
    some (framer .idle 0x00#8 0x00#8 0 0 0 0x00#8, [], .none) := by rfl
theorem test_F4 : after 0x59#8 (framer .sawH1 0x00#8 0x00#8 0 0 0 0x00#8) =
    some (framer .afterH2 0x00#8 0x00#8 0 0 0 0x00#8, [], .none) := by rfl
theorem test_F5 : after 0x53#8 (framer .sawH1 0x00#8 0x00#8 0 0 0 0x00#8) =
    some (framer .idle 0x00#8 0x00#8 0 0 0 0x00#8, [], .framingDesync) := by rfl
theorem test_F6 : after 0x00#8 (framer .sawH1 0x00#8 0x00#8 0 0 0 0x00#8) =
    some (framer .idle 0x00#8 0x00#8 0 0 0 0x00#8, [], .framingDesync) := by rfl
theorem test_F7 : after 0x53#8 (framer .afterH2 0x00#8 0x00#8 0 0 0 0x00#8) =
    some (framer .readCtrl 0x53#8 0x00#8 0 0 0 0x00#8, [], .none) := by rfl
theorem test_F8 : after 0x00#8 (framer .readCtrl 0x08#8 0x00#8 0 0 0 0x00#8) =
    some (framer .readLenHi 0x08#8 0x00#8 0 0 0 0x00#8, [], .none) := by rfl
theorem test_F9 : after 0x00#8 (framer .readLenHi 0x08#8 0x00#8 0 0 0 0x00#8) =
    some (framer .readLenLo 0x08#8 0x00#8 0 0 0 0x00#8, [], .none) := by rfl
theorem test_F10 : after 0x04#8 (framer .readLenHi 0x08#8 0x00#8 0 0 0 0x00#8) =
    some (framer .readLenLo 0x08#8 0x00#8 1024 0 0 0x00#8, [], .none) := by rfl
theorem test_F11 : after 0x05#8 (framer .readLenHi 0x08#8 0x00#8 0 0 0 0x00#8) =
    some (framer .idle 0x00#8 0x00#8 0 0 0 0x00#8, [], .framingDesync) := by rfl
theorem test_F12 : after 0x21#8 (framer .readLenLo 0x08#8 0x00#8 0 0 0 0x00#8) =
    some (framer .idle 0x00#8 0x00#8 0 0 0 0x00#8, [], .payloadOutOfRange) := by rfl
theorem test_F13 : after 0x00#8 (framer .readLenLo 0x08#8 0x00#8 256 0 0 0x00#8) =
    some (framer .idle 0x00#8 0x00#8 0 0 0 0x00#8, [], .payloadOutOfRange) := by rfl
theorem test_F14 : after 0x00#8 (framer .readLenLo 0x08#8 0x00#8 0 0 0 0x00#8) =
    some (framer .readCrc 0x08#8 0x00#8 0 0 0 0x00#8, [], .none) := by rfl
theorem test_F15 : after 0x01#8 (framer .readLenLo 0x08#8 0x00#8 0 0 0 0x00#8) =
    some (framer .readPayload 0x08#8 0x00#8 1 1 0 0x00#8, [], .none) := by rfl
theorem test_F16 : after 0x20#8 (framer .readLenLo 0x08#8 0x00#8 0 0 0 0x00#8) =
    some (framer .readPayload 0x08#8 0x00#8 32 32 0 0x00#8, [], .none) := by rfl
theorem test_F17 : after 0x53#8 (framer .readPayload 0x08#8 0x01#8 5 5 0 0x00#8) =
    some ({ framer .readPayload 0x08#8 0x01#8 5 4 1 0x00#8 with buf := [(0, 0x53#8)] }, [], .none) := by rfl
theorem test_F18 : after 0x0C#8 (framer .readPayload 0x08#8 0x01#8 5 1 4 0x00#8) =
    some ({ framer .readCrc 0x08#8 0x01#8 5 0 5 0x00#8 with buf := [(4, 0x0C#8)] }, [], .none) := by rfl
theorem test_F19 : after 0xB6#8 (framer .readCrc 0x08#8 0x00#8 1 0 1 0x00#8) =
    some (framer .sawT1 0x08#8 0x00#8 1 0 1 0xB6#8, [], .none) := by rfl
theorem test_F20 : after 0x54#8 (framer .sawT1 0x08#8 0x00#8 1 0 1 0xB6#8) =
    some (framer .expectT2 0x08#8 0x00#8 1 0 1 0xB6#8, [], .none) := by rfl
theorem test_F21 : after 0x53#8 (framer .sawT1 0x08#8 0x00#8 1 0 1 0xB6#8) =
    some (framer .idle 0x00#8 0x00#8 0 0 0 0x00#8, [], .framingDesync) := by rfl
theorem test_F22 : after 0x44#8 (framer .expectT2 0x08#8 0x00#8 1 0 1 0xB6#8) =
    some (framer .idle 0x00#8 0x00#8 0 0 0 0x00#8, [], .framingDesync) := by rfl
theorem test_F23 : after 0x53#8 (framer .readCmd 0x00#8 0x00#8 0 0 0 0x00#8) =
    some (framer .sawH1 0x00#8 0x00#8 0 0 0 0x00#8, [], .none) := by rfl
theorem test_F24 : after 0x12#8 (framer .unused15 0x00#8 0x00#8 0 0 0 0x00#8) =
    some (framer .idle 0x00#8 0x00#8 0 0 0 0x00#8, [], .none) := by rfl
theorem test_F25 : after 0x43#8 ({ framer .expectT2 0x08#8 0x00#8 1 0 1 0xB6#8 with buf := [(0, 0x01#8)] }) =
    some (framer .idle 0x00#8 0x00#8 0 0 0 0x00#8, [.outputSwitch true], .none) := by rfl
theorem test_F26 : after 0x43#8 ({ framer .expectT2 0x08#8 0x00#8 1 0 1 0xB7#8 with buf := [(0, 0x01#8)] }) =
    some (framer .idle 0x00#8 0x00#8 0 0 0 0x00#8, [], .checksumMismatch) := by rfl

/-! ### Checksums (95_test_vectors part 2.3) -/

theorem test_K1 : checksum [0x53#8, 0x59#8, 0x01#8, 0x01#8, 0x00#8, 0x01#8, 0x0F#8, 0x00#8, 0x54#8, 0x43#8] = 0xBE#8 := by decide
theorem test_K2 : checksum [0x53#8, 0x59#8, 0x08#8, 0x80#8, 0x00#8, 0x01#8, 0x0F#8, 0x00#8, 0x54#8, 0x43#8] = 0x44#8 := by decide
theorem test_K3 : checksum [0x11#8, 0x22#8, 0x33#8] = 0x00#8 := by decide
theorem test_K4 : checksum ([0x53#8, 0x59#8, 0x02#8, 0xA4#8, 0x00#8, 0x20#8] ++ List.replicate 32 0xFF#8 ++ [0x00#8, 0x54#8, 0x43#8]) =
    0x52#8 := by decide
theorem test_K5 : checksum [0x53#8, 0x59#8, 0x08#8, 0x00#8, 0x00#8, 0x01#8, 0x01#8, 0x00#8, 0x00#8, 0x00#8] = 0xB6#8 := by decide
theorem test_K8 : generate [0x53#8, 0x59#8, 0x05#8, 0x07#8, 0x00#8, 0x01#8, 0x47#8] = 0x00#8 := by decide

/-! ### Witnesses: for every obligation with hypotheses, states and operands that meet them, at the ends of their ranges -/

/-- A sample with everything presented at once. -/
def busySample (rst rxValid : Bool) (b : Byte) (kind : BitVec 4) : PortSample :=
  ⟨rst, rxValid, b, true, kind, 0x01#8⟩

/-- A Framer state with the next sample given. -/
def waiting (st : FramerState) (p : PortSample) : State := { State.reset with st := st, inputs := [p] }

/-- In the middle of a payload of 32 bytes, one byte stored. -/
def midPayload : State :=
  { State.reset with
    st := .readPayload, ctrl := 0x02#8, cmd := 0xA1#8, len := 32#16, rem := 31#16, cnt := 1#6, buf := [(0, 0x41#8)] }

/-- The last byte of a heartbeat frame with the payload byte 0x0F is due. -/
def heartbeatDue : State := { beforeTail 0x01#8 0x01#8 [0x0F#8] 0xBE#8 with inputs := [] }

theorem test_midPayload_invariant : RunInvariant midPayload where
  code := by decide
  lenHigh := by decide
  payload := by decide
  filled := by decide
  canonical := by decide
  frame := by decide
  outputs := .inr ⟨rfl, .inl rfl⟩

theorem test_heartbeatDue_invariant : RunInvariant heartbeatDue where
  code := by decide
  lenHigh := by decide
  payload := by decide
  filled := by decide
  canonical := by decide
  frame := by decide
  outputs := .inr ⟨rfl, .inl rfl⟩

theorem test_witness_ResetClearsRxAndDropsTheByte : ∃ (s : State) (p : PortSample) (rest : List PortSample),
    s.inputs = p :: rest ∧ p.rst = true ∧ p.rxValid = true ∧ s.st = .readPayload :=
  ⟨waiting .readPayload (busySample true true 0x41#8 0#4), _, _, rfl, rfl, rfl, rfl⟩

theorem test_witness_StalledTransportHoldsTheAttempt : ∃ (s : State) (ps rest : List PortSample),
    s.inputs = ps ++ rest ∧ (∀ p ∈ ps, p.rst = false ∧ p.rxValid = false) ∧ ps ≠ [] ∧ s.st = .readPayload :=
  ⟨{ midPayload with inputs := [noInput, noInput] }, [noInput, noInput], [], rfl, by decide, by decide, rfl⟩

theorem test_witness_ByteStepIsTheRxStep : ∃ (s t : State) (p : PortSample) (rest : List PortSample),
    s.inputs = p :: rest ∧ p.rst = false ∧ p.rxValid = true ∧ p.txReqValid = false ∧
      rxStep p.rxByte { s with inputs := rest } = .next t :=
  ⟨waiting .idle (byteInput 0x53#8), _, _, _, rfl, rfl, rfl, rfl, rfl⟩

theorem test_witness_StepRunsTheDecodedFrame :
    ∃ (s : State) (p : PortSample) (rest : List PortSample) (i j : Instr), s.inputs = p :: rest ∧ p.rst = false ∧
      p.rxValid = true ∧ p.rxByte = 0x43#8 ∧ s.st = .expectT2 ∧ decodeFrame (heldFrame s) = .ok (i, []) ∧
      p.txReqValid = true ∧ decodeRequest p.txReqKind p.txReqArg = .ok j :=
  ⟨{ heartbeatDue with inputs := [busySample false true 0x43#8 9#4] }, _, _, .rx0101Heartbeat [0x0F#8],
    .txSetSceneMode 0x01#8, rfl, rfl, rfl, rfl, rfl, by rfl, rfl, by rfl⟩

theorem test_witness_StepRunsTheDecodedFrame_no_request :
    ∃ (s : State) (p : PortSample) (rest : List PortSample) (i : Instr), s.inputs = p :: rest ∧ p.rst = false ∧
      p.rxValid = true ∧ p.rxByte = 0x43#8 ∧ s.st = .expectT2 ∧ decodeFrame (heldFrame s) = .ok (i, []) ∧
      p.txReqValid = false :=
  ⟨{ heartbeatDue with inputs := [byteInput 0x43#8] }, _, _, .rx0101Heartbeat [0x0F#8], rfl, rfl, rfl, rfl, rfl, by rfl,
    rfl⟩

theorem test_witness_StepRunsTheDecodedRequest :
    ∃ (s : State) (p : PortSample) (rest : List PortSample) (i : Instr), s.inputs = p :: rest ∧ p.rst = false ∧
      p.rxValid = false ∧ p.txReqValid = true ∧ decodeRequest p.txReqKind p.txReqArg = .ok i :=
  ⟨waiting .idle (requestInput 9#4 0x01#8), _, _, .txSetSceneMode 0x01#8, rfl, rfl, rfl, rfl, by rfl⟩

theorem test_witness_ReservedKindsSendNothing : ∀ kind ∈ [10#4, 15#4], ∃ (s : State) (p : PortSample)
    (rest : List PortSample), s.inputs = p :: rest ∧ p.rst = false ∧ p.rxValid = false ∧ p.txReqValid = true ∧
      p.txReqKind = kind ∧ 10 ≤ p.txReqKind.toNat := by
  intro kind hk
  exact ⟨waiting .idle (requestInput kind 0x00#8), _, _, rfl, rfl, rfl, rfl, rfl, by
    simp only [List.mem_cons, List.not_mem_nil, or_false] at hk; rcases hk with rfl | rfl <;> decide⟩

theorem test_witness_RxAndTxDoNotInteract_rx : ∃ (s t : State) (p q : PortSample) (rest : List PortSample),
    p.rst = q.rst ∧ p.rxValid = q.rxValid ∧ p.rxByte = q.rxByte ∧ p.txReqValid ≠ q.txReqValid ∧
      step { s with inputs := p :: rest } = .next t :=
  ⟨State.reset, _, byteInput 0x53#8, busySample false true 0x53#8 0#4, [], rfl, rfl, rfl, by decide, rfl⟩

theorem test_witness_RxAndTxDoNotInteract_tx :
    ∃ (s s' t t' : State) (p q : PortSample) (rest rest' : List PortSample), p.txReqValid = q.txReqValid ∧
      p.txReqKind = q.txReqKind ∧ p.txReqArg = q.txReqArg ∧ p.rst ≠ q.rst ∧
      step { s with inputs := p :: rest } = .next t ∧ step { s' with inputs := q :: rest' } = .next t' :=
  ⟨midPayload, State.reset, _, _, busySample true true 0x53#8 8#4, busySample false false 0x00#8 8#4, [], [noInput],
    rfl, rfl, rfl, by decide, rfl, rfl⟩

theorem test_witness_IdleAcceptsHeader1 : ∃ (s t : State) (b : Byte),
    s.st = .idle ∧ rxStep b s = .next t ∧ t.st ≠ .idle :=
  ⟨State.reset, _, 0x53#8, rfl, rfl, by decide⟩

theorem test_witness_OtherBytesAreHuntedSilently : (∃ (s : State) (b : Byte), s.st = .idle ∧ b ≠ 0x53#8) ∧
    ∀ st ∈ [FramerState.readCmd, .unused11, .unused15], ∃ s : State, s.st = st ∧ s.st.reachable = false :=
  ⟨⟨State.reset, 0x54#8, rfl, by decide⟩, fun st h => ⟨{ State.reset with st := st }, rfl, by
    simp only [List.mem_cons, List.not_mem_nil, or_false] at h; rcases h with rfl | rfl | rfl <;> rfl⟩⟩

theorem test_witness_NoiseBetweenFramesIsSilent : ∃ (s : State) (noise : List Byte) (rest : List PortSample),
    s.st = .idle ∧ s.inputs = asBytes noise ++ rest ∧ (∀ b ∈ noise, b ≠ 0x53#8) ∧ noise ≠ [] :=
  ⟨{ State.reset with inputs := asBytes [0x52#8, 0x54#8] }, [0x52#8, 0x54#8], [], rfl, rfl, by decide, by decide⟩

theorem test_witness_states : ∀ st : FramerState, ∃ s : State, s.st = st := fun st => ⟨{ State.reset with st := st }, rfl⟩

theorem test_witness_HeaderAndKeyAreAccepted :
    (∃ s : State, s.st = .sawH1) ∧ (∃ s : State, s.st = .afterH2) ∧ (∃ s : State, s.st = .readCtrl) :=
  ⟨test_witness_states _, test_witness_states _, test_witness_states _⟩

theorem test_witness_LengthHighIsScaled : ∀ b ∈ [0x00#8, 0x04#8], ∃ s : State, s.st = .readLenHi ∧ b.toNat ≤ 4 :=
  fun b h => ⟨{ State.reset with st := .readLenHi }, rfl, by revert b; decide⟩

theorem test_witness_LengthIsAccepted : ∀ b ∈ [0x01#8, 0x20#8],
    ∃ s : State, s.st = .readLenLo ∧ 1 ≤ s.len.toNat + b.toNat ∧ s.len.toNat + b.toNat ≤ 32 :=
  fun b h => ⟨{ State.reset with st := .readLenLo }, rfl, by revert b; decide, by revert b; decide⟩

theorem test_witness_EmptyPayloadSkipsToTheChecksum :
    ∃ (s : State) (b : Byte), s.st = .readLenLo ∧ s.len.toNat + b.toNat = 0 :=
  ⟨{ State.reset with st := .readLenLo }, 0x00#8, rfl, rfl⟩

theorem test_witness_PayloadByteIsStoredAtCnt :
    (∃ s : State, s.st = .readPayload ∧ Memory.wf s.buf = true ∧ s.cnt.toNat < 32 ∧ 1 ≤ s.rem.toNat ∧ s.rem.toNat ≠ 1) ∧
    ∃ s : State, s.st = .readPayload ∧ Memory.wf s.buf = true ∧ s.cnt.toNat = 31 ∧ s.rem.toNat = 1 :=
  ⟨⟨midPayload, by decide⟩, ⟨{ midPayload with cnt := 31#6, rem := 1#16 }, by decide⟩⟩

theorem test_witness_ChecksumByteAndTail1AreAccepted : (∃ s : State, s.st = .readCrc) ∧ (∃ s : State, s.st = .sawT1) :=
  ⟨test_witness_states _, test_witness_states _⟩

theorem test_witness_StructuralMismatchAborts :
    (∃ (s : State) (b : Byte), s.st = .sawH1 ∧ b ≠ 0x59#8) ∧ (∃ (s : State) (b : Byte), s.st = .readLenHi ∧ b.toNat = 5) ∧
    (∃ (s : State) (b : Byte), s.st = .readLenLo ∧ s.len.toNat + b.toNat = 33) ∧
    (∃ (s : State) (b : Byte), s.st = .sawT1 ∧ b ≠ 0x54#8) ∧ (∃ (s : State) (b : Byte), s.st = .expectT2 ∧ b ≠ 0x43#8) :=
  ⟨⟨{ State.reset with st := .sawH1 }, 0x53#8, rfl, by decide⟩, ⟨{ State.reset with st := .readLenHi }, 0x05#8, rfl, rfl⟩,
    ⟨{ State.reset with st := .readLenLo }, 0x21#8, rfl, rfl⟩, ⟨{ State.reset with st := .sawT1 }, 0x53#8, rfl, by decide⟩,
    ⟨{ State.reset with st := .expectT2 }, 0x53#8, rfl, by decide⟩⟩

theorem test_witness_CompletionValidatesThenDispatches :
    (∃ s : State, s.st = .expectT2 ∧ s.len.toNat = 0 ∧ s.crc.toNat ≠ frameSum (heldFrame s)) ∧
    (∃ s : State, s.st = .expectT2 ∧ s.len.toNat = 1 ∧ s.crc.toNat = frameSum (heldFrame s)) ∧
    (∃ s : State, s.st = .expectT2 ∧ s.len.toNat = 32 ∧ s.crc.toNat = frameSum (heldFrame s)) :=
  ⟨⟨beforeTail 0x01#8 0x01#8 [] 0xAF#8, by decide⟩, ⟨heartbeatDue, by decide⟩,
    ⟨{ beforeTail 0x01#8 0x01#8 [] 0xCE#8 with len := 32#16, cnt := 32#6 }, by decide⟩⟩

theorem test_witness_AbsentBufferByteFaults : (∃ s : State, s.st = .readPayload ∧ s.cnt.toNat = 32) ∧
    (∃ s : State, s.st = .readPayload ∧ s.cnt.toNat = 63) ∧ (∃ s : State, s.st = .expectT2 ∧ s.len.toNat = 33) :=
  ⟨⟨{ midPayload with cnt := 32#6 }, by decide⟩, ⟨{ midPayload with cnt := 63#6 }, by decide⟩,
    ⟨{ heartbeatDue with len := 33#16 }, by decide⟩⟩

theorem test_witness_FramingDesyncHasFourCauses :
    ∃ (s t : State) (b : Byte), rxStep b s = .next t ∧ t.diag = .framingDesync :=
  ⟨waiting .sawH1 noInput, _, 0x53#8, rfl, rfl⟩

theorem test_witness_ChecksumMismatchHasOneCause :
    ∃ (s t : State) (b : Byte), rxStep b s = .next t ∧ t.diag = .checksumMismatch :=
  ⟨beforeTail 0x08#8 0x00#8 [0x01#8] 0xB7#8, _, 0x43#8, rfl, rfl⟩

theorem test_witness_UnknownCommandIsReportedAsUnrecognized : ∀ key ∈ [(0x01#8, 0x03#8, 0xB0#8), (0x81#8, 0x01#8, 0x2E#8)],
    ∃ (s t : State) (b : Byte), s.ctrl = key.1 ∧ s.cmd = key.2.1 ∧ rxStep b s = .next t ∧ t.diag = .unknownCommand ∧
      t.ev ≠ [] := by
  intro key hk
  simp only [List.mem_cons, List.not_mem_nil, or_false] at hk
  rcases hk with rfl | rfl
  · exact ⟨beforeTail 0x01#8 0x03#8 [] 0xB0#8, _, 0x43#8, rfl, rfl, rfl, by decide, by decide⟩
  · exact ⟨beforeTail 0x81#8 0x01#8 [] 0x2E#8, _, 0x43#8, rfl, rfl, rfl, by decide, by decide⟩

theorem test_witness_EveryConditionClearsTheFramer :
    ∃ (s t : State) (b : Byte), rxStep b s = .next t ∧ t.diag = .payloadOutOfRange ∧ t.diag ≠ .none :=
  ⟨waiting .readLenLo noInput, _, 0x21#8, rfl, rfl, by decide⟩

theorem test_witness_EventsOnlyAtTheLastByte : ∃ (s t : State) (b : Byte), rxStep b s = .next t ∧ t.ev ≠ [] :=
  ⟨heartbeatDue, _, 0x43#8, rfl, by decide⟩

theorem test_witness_ProductTextKeys : (∃ p : List Byte, p.length < Config.textBound) ∧
    (∃ p : List Byte, p.length + 1 = Config.textBound) ∧ ∃ p : List Byte, p.length = Config.textBound :=
  ⟨⟨[], by simp [Config.textBound]⟩, ⟨List.replicate (Config.textBoundOver + 3) 0x41#8, by simp [Config.textBound]⟩,
    ⟨List.replicate Config.textBound 0x41#8, by simp⟩⟩

theorem test_witness_OutputSwitchKeys : (∃ p : Byte, p ≠ 0x00#8) ∧ ∃ p : Byte, p = 0x00#8 :=
  ⟨⟨0xFF#8, by decide⟩, ⟨0x00#8, rfl⟩⟩

theorem test_witness_PackedFieldsKey : (∃ p : List Byte, p.length = 0 ∧ p.length < 5) ∧
    ∃ p : List Byte, p.length = 4 ∧ p.length < 5 :=
  ⟨⟨[], by decide⟩, ⟨[0x01#8, 0x02#8, 0x03#8, 0x04#8], by decide⟩⟩

theorem test_witness_TableLookupKeys :
    (∃ x, x ∈ [(0x00#8, KeepAway.none), (0x01#8, .closeTo), (0x02#8, .farAway)]) ∧
    (∃ x, x ∈ [(0x00#8, Motion.none), (0x01#8, .still), (0x02#8, .active)]) ∧ ∃ x, x ∈ [(0x00#8, false), (0x01#8, true)] :=
  ⟨⟨(0x02#8, .farAway), by decide⟩, ⟨(0x02#8, .active), by decide⟩, ⟨(0x01#8, true), by decide⟩⟩

theorem test_witness_OutOfRangeIndexGivesNoEvent : (∃ p : Byte, 3 ≤ p.toNat) ∧ (∃ p : Byte, p.toNat = 2 ∧ 2 ≤ p.toNat) ∧
    ∃ p : Byte, p.toNat = 0 ∨ Config.sceneCount.toNat < p.toNat :=
  ⟨⟨0x03#8, by decide⟩, ⟨0x02#8, by decide⟩, ⟨0x00#8, .inl rfl⟩⟩

theorem test_witness_InboundInstructionFrame : ∃ i : Instr, i.isInbound = true ∧ i.wellFormed = true :=
  ⟨.rx8083MovementSigns [0x10#8], by decide⟩

theorem test_witness_DispatchResultsHaveFourShapes : ∃ (i : Instr) (s t : State),
    i.isInbound = true ∧ i.wellFormed = true ∧ exec i s = .next t ∧ t.ev.length = 5 :=
  ⟨.rx0801PackedFields [0x20#8, 0x06#8, 0x31#8, 0x04#8, 0x0C#8], State.reset, _, rfl, by decide, rfl, rfl⟩

theorem test_witness_SetOutputSwitchReadsBitZero : (∃ arg : Byte, arg.toNat % 2 = 1) ∧ ∃ arg : Byte, arg.toNat % 2 = 0 :=
  ⟨⟨0xFF#8, by decide⟩, ⟨0xFE#8, by decide⟩⟩

theorem test_witness_SetSceneModeSendsTheCode : ∃ arg code : Byte, code = Config.sceneCodes.getD arg.toNat 0x00#8 :=
  ⟨0x00#8, _, rfl⟩

theorem test_witness_OutboundFramesCarryTheirChecksum : ∃ (i : Instr) (s t : State),
    i.isInbound = false ∧ exec i s = .next t ∧ t.txValid = true :=
  ⟨.txHeartbeat 0x00#8, State.reset, _, rfl, rfl, rfl⟩

theorem test_witness_RequestInstructionFrame : ∃ i : Instr, i.isInbound = false := ⟨.txSetSceneMode 0xFF#8, by decide⟩

theorem test_witness_OneChangedByteIsDetected : ∀ k ∈ [0, 6], ∃ (frame : List Byte) (b : Byte),
    k + 3 < frame.length ∧ frame[k]? ≠ some b ∧ validFrame frame = true :=
  fun k hk => ⟨outboundFrame 0x08#8 0x00#8 0x01#8, 0x21#8, by revert k; decide, by revert k; decide, by decide⟩

theorem test_witness_DecodeOfEncode : ∃ (i : Instr) (bytes : List Byte), i.wellFormed = true ∧ encode i = .frame bytes :=
  ⟨.rxXXXXUnknown 0x53#8 0x59#8 (List.replicate 32 0xFF#8), _, by decide, rfl⟩

theorem test_witness_EncodeOfDecode : (∃ (bytes rest : List Byte) (i : Instr),
      rest ≠ [] ∧ decodeFrame bytes = .ok (i, rest)) ∧
    ∃ (kind : BitVec 4) (arg : Byte) (i : Instr), decodeRequest kind arg = .ok i :=
  ⟨⟨[0x53#8, 0x59#8, 0x01#8, 0x01#8, 0x00#8, 0x00#8, 0xAE#8, 0x54#8, 0x43#8, 0x53#8], [0x53#8], .rx0101Heartbeat [],
    by decide, by rfl⟩, ⟨9#4, 0xFF#8, .txSetSceneMode 0xFF#8, by rfl⟩⟩

theorem test_witness_DecodedFramesHaveStructuralLength : ∃ (bytes : List Byte) (i : Instr),
    decodeFrame bytes = .ok (i, []) :=
  ⟨[0x53#8, 0x59#8, 0x01#8, 0x01#8, 0x00#8, 0x00#8, 0xAE#8, 0x54#8, 0x43#8], .rx0101Heartbeat [], by rfl⟩

theorem test_witness_EventRecords : (∃ (mk : List Byte → Event) (tag : BitVec 5) (text : List Byte),
      (mk, tag) ∈ [(Event.productModel, 1#5), (Event.productId, 2#5), (Event.hardwareModel, 3#5),
        (Event.firmwareVersion, 4#5)] ∧ text.length = 32) ∧
    ∀ h ∈ [(-10 : Int), 245], ∃ (e : Event) (half : Int), e = .motionSpeed half ∧ half = h ∧ -10 ≤ half ∧ half ≤ 245 :=
  ⟨⟨Event.firmwareVersion, 4#5, List.replicate 32 0x41#8, by simp, by decide⟩,
    fun h hh => ⟨.motionSpeed h, h, rfl, rfl, by revert h; decide, by revert h; decide⟩⟩

theorem test_witness_EveryStepKeepsTheInvariant : ∃ s t : State, RunInvariant s ∧ s.st = .readPayload ∧ step s = .next t :=
  ⟨{ midPayload with inputs := [byteInput 0x42#8] }, _,
    { test_midPayload_invariant with }, rfl, rfl⟩

theorem test_witness_NoInputStopsTheBlock : ∃ s : State, RunInvariant s ∧ s.st = .expectT2 :=
  ⟨heartbeatDue, test_heartbeatDue_invariant, rfl⟩

theorem test_witness_AttemptsEndWithin41Bytes : ∃ (s : State) (bytes : List Byte) (rest : List PortSample),
    RunInvariant s ∧ s.st ≠ .idle ∧ bytes.length = 40 ∧ s.inputs = asBytes bytes ++ rest :=
  ⟨{ midPayload with inputs := asBytes (List.replicate 40 0x53#8) }, List.replicate 40 0x53#8, [],
    { test_midPayload_invariant with }, by decide, by decide, by simp⟩

theorem test_witness_FrameBytesRunTheirInstruction :
    ∃ (i : Instr) (s : State) (frame : List Byte) (rest : List PortSample), i.isInbound = true ∧ i.wellFormed = true ∧
      encode i = .frame frame ∧ s.st = .idle ∧ Memory.wf s.buf = true ∧ s.inputs = asBytes frame ++ rest :=
  ⟨.rx0881StaticValue [0x40#8], { State.reset with inputs := asBytes (encodeFrame 0x08#8 0x81#8 [0x40#8]) }, _, [], rfl,
    by decide, rfl, rfl, rfl, by simp⟩

theorem test_witness_LoopbackRoundTrip : ∃ (arg : Byte) (i : Instr) (s t u : State) (rest : List PortSample),
    i = .txQueryHumanStatus arg ∧ exec i s = .next t ∧ u.st = .idle ∧ Memory.wf u.buf = true ∧
      u.inputs = asBytes t.txFrame ++ rest :=
  ⟨0x00#8, _, State.reset, _, { State.reset with inputs := asBytes (outboundFrame 0x80#8 0x81#8 0x0F#8) }, [], rfl, rfl,
    rfl, rfl, by simp [sendFrame]⟩

theorem test_witness_LoopbackRoundTrip_scene : ∃ (code : Byte) (u : State) (rest : List PortSample),
    u.st = .idle ∧ Memory.wf u.buf = true ∧ u.inputs = asBytes (template 0x05#8 0x07#8 code) ++ rest :=
  ⟨0x47#8, { State.reset with inputs := asBytes (template 0x05#8 0x07#8 0x47#8) }, [], rfl, rfl, by simp⟩

/-- A state that differs from `heartbeatDue` in an unmarked register and in a buffer byte that the frame did not write. -/
def heartbeatDueStale : State := { heartbeatDue with rem := 7#16, buf := [(0, 0x0F#8), (1, 0x77#8)] }

theorem test_witness_UnmarkedRegistersAreUnobservable : ∃ (s t s' : State),
    RunInvariant s ∧ RunInvariant t ∧ SameLive s t ∧ s.rem ≠ t.rem ∧ run 1 s = .next s' :=
  ⟨heartbeatDue, heartbeatDueStale, _, test_heartbeatDue_invariant,
    { test_heartbeatDue_invariant with payload := by decide, canonical := by decide },
    ⟨rfl, rfl, fun _ => rfl, fun _ => rfl, fun _ => rfl, (fun h => by cases h), fun _ => rfl, fun _ => by decide, fun _ => rfl⟩,
    by decide, rfl⟩

end Sys2Proof.Tests
end

section
/-! The template of an outbound frame (30_encoding R101, R102). -/

namespace Sys2Proof.Machine

open Sys2Proof.Claims

/-- The model's recursive byte sum is the sum that the statements write out (00_scope R15). -/
theorem byteSum_eq_exactSum (bs : List Byte) : byteSum bs = exactSum bs := by
  induction bs with
  | nil => rfl
  | cons b bs ih => simp [exactSum, ih]

/-- The generator's byte is the sum of the template modulo 256 (41_checksum_validator R174). -/
theorem generate_eq_exactSum (bs : List Byte) : generate bs = BitVec.ofNat 8 (exactSum bs) :=
  congrArg (BitVec.ofNat 8) (byteSum_eq_exactSum bs)

/-- The generated frame is the written-out template. -/
theorem outboundFrame_eq_template (ctrl cmd v : Byte) : outboundFrame ctrl cmd v = template ctrl cmd v := by
  simp only [outboundFrame, template, generate_eq_exactSum]
  rfl

/-- Settles O45: a request sends one generated frame, which is the template, or none, and then `tx_valid` is 0. -/
theorem outboundFramesCarryTheirChecksum : Obligations.OutboundFramesCarryTheirChecksum := by
  intro i s t hreq hexec hvalid
  rcases exec_request i hreq with ⟨ctrl, cmd, v, hsend⟩ | hnone
  · obtain rfl : sendFrame ctrl cmd v s = t := by simpa [hsend] using hexec
    exact ⟨ctrl, cmd, v, outboundFrame_eq_template ctrl cmd v⟩
  · obtain rfl : noFrame s = t := by simpa [hnone] using hexec
    simp at hvalid

end Sys2Proof.Machine
end

section
/-! The rows of the Framer's transition table that accept a byte (40_framer R131 to R145), and the steps without a byte
(R160). -/

namespace Sys2Proof.Machine

open Sys2Proof.Claims

/-! ### Runs -/

theorem coreRun_succ_of_step {M : Host.Core} {s t : M.State} (n : Nat) (h : M.step s = .next t) :
    M.run (n + 1) s = M.run n t := by
  simp only [Host.Core.run, h]

/-- A run whose first step completes goes on from that step's state. -/
theorem run_succ_of_step {s t : State} (n : Nat) (h : step s = .next t) : run (n + 1) s = run n t :=
  coreRun_succ_of_step (M := Sys2Proof.core) n h

/-! ### Steps without a byte (R160) -/

theorem SameRegisters.refl (s : State) : SameRegisters s s := ⟨rfl, rfl, rfl, rfl, rfl, rfl, fun _ => rfl, rfl⟩

theorem SameRegisters.trans {s t u : State} (h : SameRegisters s t) (h' : SameRegisters t u) : SameRegisters s u where
  st := h'.st.trans h.st
  ctrl := h'.ctrl.trans h.ctrl
  cmd := h'.cmd.trans h.cmd
  len := h'.len.trans h.len
  rem := h'.rem.trans h.rem
  cnt := h'.cnt.trans h.cnt
  buf := fun k => (h'.buf k).trans (h.buf k)
  crc := h'.crc.trans h.crc

/-- With neither a reset nor a byte, the RX agent only empties its outputs. -/
theorem rxPart_byteless {p : PortSample} (s : State) (hrst : p.rst = false) (hvalid : p.rxValid = false) :
    rxPart p s = .next (quiet s) := by
  simp [rxPart, hrst, hvalid]

/-- What a step without a reset and without a byte keeps, whether or not it presents a request. -/
theorem step_byteless {s : State} {p : PortSample} {rest : List PortSample} (hin : s.inputs = p :: rest)
    (hrst : p.rst = false) (hvalid : p.rxValid = false) :
    ∃ t, step s = .next t ∧ SameRegisters s t ∧ t.inputs = rest ∧ t.ev = [] ∧ t.diag = .none := by
  have hnext : nextSample s = p := by simp [nextSample, hin]
  have hrx : rxPart (nextSample s) (dropSample s) = .next (quiet (dropSample s)) := by
    rw [hnext]
    exact rxPart_byteless _ hrst hvalid
  obtain ⟨t, htx⟩ := txPart_next (nextSample s) (quiet (dropSample s))
  obtain ⟨hst, hctrl, hcmd, hlen, hrem, hcnt, hbuf, hcrc, hev, hdiag, hinputs, -⟩ := txPart_frame htx
  exact ⟨t, (step_of_rxPart hrx).trans htx, ⟨hst, hctrl, hcmd, hlen, hrem, hcnt, fun k => by rw [hbuf]; rfl, hcrc⟩,
    by simp [hinputs, hin], hev, hdiag⟩

/-- From a state with empty RX outputs, any number of steps without a byte keeps them empty and every register as it
was. -/
theorem run_byteless {s : State} {ps rest : List PortSample} (hin : s.inputs = ps ++ rest)
    (hps : ∀ p ∈ ps, p.rst = false ∧ p.rxValid = false) (hev : s.ev = []) (hdiag : s.diag = .none) :
    ∃ t, run ps.length s = .next t ∧ SameRegisters s t ∧ t.inputs = rest ∧ t.ev = [] ∧ t.diag = .none := by
  induction ps generalizing s with
  | nil => exact ⟨s, rfl, .refl s, hin, hev, hdiag⟩
  | cons p ps ih =>
    obtain ⟨⟨hrst, hvalid⟩, hps⟩ := List.forall_mem_cons.1 hps
    obtain ⟨t, hstep, hsame, hint, hev, hdiag⟩ := step_byteless hin hrst hvalid
    obtain ⟨u, hrun, hsame', hout⟩ := ih hint hps hev hdiag
    exact ⟨u, (run_succ_of_step _ hstep).trans hrun, hsame.trans hsame', hout⟩

/-- Settles O3: the first step without a byte empties the outputs, and the others keep them so. -/
theorem stalledTransportHoldsTheAttempt : Obligations.StalledTransportHoldsTheAttempt := by
  intro s ps rest hin hps
  cases ps with
  | nil => exact ⟨s, rfl, .refl s, hin, fun h => absurd rfl h⟩
  | cons p ps =>
    obtain ⟨⟨hrst, hvalid⟩, hps⟩ := List.forall_mem_cons.1 hps
    obtain ⟨t, hstep, hsame, hint, hev, hdiag⟩ := step_byteless hin hrst hvalid
    obtain ⟨u, hrun, hsame', hinu, hout⟩ := run_byteless hint hps hev hdiag
    exact ⟨u, (run_succ_of_step _ hstep).trans hrun, hsame.trans hsame', hinu, fun _ => hout⟩

/-! ### The row that the RX step takes in each state (R130) -/

section
variable {s : State} (b : Byte)

theorem rxStep_idle (h : s.st = .idle) : rxStep b s = .next (hunt b (quiet s)) := by simp only [rxStep, h]

theorem rxStep_sawH1 (h : s.st = .sawH1) : rxStep b s = .next (acceptHeader2 b (quiet s)) := by simp only [rxStep, h]

theorem rxStep_afterH2 (h : s.st = .afterH2) : rxStep b s = .next (acceptCtrl b (quiet s)) := by simp only [rxStep, h]

theorem rxStep_readCtrl (h : s.st = .readCtrl) : rxStep b s = .next (acceptCmd b (quiet s)) := by simp only [rxStep, h]

theorem rxStep_readLenHi (h : s.st = .readLenHi) : rxStep b s = .next (acceptLenHi b (quiet s)) := by
  simp only [rxStep, h]

theorem rxStep_readLenLo (h : s.st = .readLenLo) : rxStep b s = .next (acceptLenLo b (quiet s)) := by
  simp only [rxStep, h]

theorem rxStep_readPayload (h : s.st = .readPayload) : rxStep b s = acceptPayload b (quiet s) := by simp only [rxStep, h]

theorem rxStep_readCrc (h : s.st = .readCrc) : rxStep b s = .next (acceptCrc b (quiet s)) := by simp only [rxStep, h]

theorem rxStep_sawT1 (h : s.st = .sawT1) : rxStep b s = .next (acceptTail1 b (quiet s)) := by simp only [rxStep, h]

end

/-! ### The accepting outcome of each row -/

@[simp] theorem hunt_header1 (s : State) : hunt header1 s = { s with st := .sawH1 } := if_pos rfl

/-- The hunt ends on header1 and on no other byte. -/
theorem hunt_st_ne_idle {b : Byte} {s : State} : (hunt b s).st ≠ .idle ↔ b = header1 := by
  by_cases h : b = header1 <;> simp [hunt, h]

@[simp] theorem acceptHeader2_header2 (s : State) : acceptHeader2 header2 s = { s with st := .afterH2 } := if_pos rfl

@[simp] theorem acceptTail1_tail1 (s : State) : acceptTail1 tail1 s = { s with st := .expectT2 } := if_pos rfl

theorem acceptLenHi_of_le {b : Byte} (s : State) (h : b.toNat ≤ Config.lenHiMax) :
    acceptLenHi b s = { s with len := BitVec.ofNat 16 (b.toNat * 256), st := .readLenLo } := if_pos h

/-- The row of R141: a length from 1 to the largest payload. -/
theorem acceptLenLo_of_pos {b : Byte} {s : State} (hpos : 1 ≤ s.len.toNat + b.toNat)
    (hle : s.len.toNat + b.toNat ≤ Config.maxPayload) :
    acceptLenLo b s = { s with
      len := BitVec.ofNat 16 (s.len.toNat + b.toNat), rem := BitVec.ofNat 16 (s.len.toNat + b.toNat), cnt := 0#6
      st := .readPayload } := by
  simp only [acceptLenLo]
  rw [if_neg (by omega), if_neg (by omega)]

/-- A register of `w` bits holds an exact sum below `2 ^ w`. -/
theorem toNat_ofNat_of_lt {w n : Nat} (h : n < 2 ^ w) : (BitVec.ofNat w n).toNat = n :=
  (BitVec.toNat_ofNat n w).trans (Nat.mod_eq_of_lt h)

/-! ### The statements -/

/-- Settles O17: the write is at `cnt`, and within the bounds neither counter wraps. -/
theorem payloadByteIsStoredAtCnt : Obligations.PayloadByteIsStoredAtCnt := by
  intro s b hst hwf hcnt hrem
  have hstep := (rxStep_readPayload b hst).trans (acceptPayload_of_lt b hcnt)
  have hread := Memory.read_write (a := s.cnt.toNat) (b := b) hwf
  have hlast : s.rem - 1#16 = 0#16 ↔ s.rem.toNat = 1 := by bv_omega
  refine ⟨_, hstep, fun k hk => (hread k).trans (if_neg hk), (hread _).trans (if_pos rfl), ?_, ?_, ?_, rfl⟩
  · change (s.cnt + 1#6).toNat = s.cnt.toNat + 1
    bv_omega
  · change (s.rem - 1#16).toNat = s.rem.toNat - 1
    bv_omega
  · simp only [quiet_rem, hlast]

/-- Settles O10: in IDLE the step is the hunt. -/
theorem idleAcceptsHeader1 : Obligations.IdleAcceptsHeader1 := by
  intro s hst
  refine ⟨(rxStep_idle _ hst).trans (congrArg _ (hunt_header1 _)), fun b t hstep hleft => ?_⟩
  obtain rfl : hunt b (quiet s) = t := by simpa [rxStep_idle b hst] using hstep
  exact hunt_st_ne_idle.1 hleft

/-- Settles O13: only header2 is tested; the two words of the key are stored as they come. -/
theorem headerAndKeyAreAccepted : Obligations.HeaderAndKeyAreAccepted := fun _ b =>
  ⟨fun hst => (rxStep_sawH1 _ hst).trans (congrArg _ (acceptHeader2_header2 _)), rxStep_afterH2 b, rxStep_readCtrl b⟩

/-- Settles O14: at most 4 times 256 fits `len`. -/
theorem lengthHighIsScaled : Obligations.LengthHighIsScaled := by
  intro s b hst hle
  have hstep := (rxStep_readLenHi b hst).trans (congrArg _ (acceptLenHi_of_le _ hle))
  exact ⟨_, hstep, toNat_ofNat_of_lt (by omega), rfl⟩

/-- Settles O15: the accepted length is at most 32, so `len` and `rem` hold it exactly. -/
theorem lengthIsAccepted : Obligations.LengthIsAccepted := by
  intro s b hst hpos hle
  have hstep := (rxStep_readLenLo b hst).trans (congrArg _ (acceptLenLo_of_pos hpos hle))
  have hfits : (BitVec.ofNat 16 (s.len.toNat + b.toNat)).toNat = s.len.toNat + b.toNat :=
    toNat_ofNat_of_lt (by omega)
  exact ⟨_, hstep, hfits, hfits, rfl⟩

/-- Settles O18: the checksum byte is not tested here; tail1 is. -/
theorem checksumByteAndTail1AreAccepted : Obligations.ChecksumByteAndTail1AreAccepted := fun _ b =>
  ⟨rxStep_readCrc b, fun hst => (rxStep_sawT1 _ hst).trans (congrArg _ (acceptTail1_tail1 _))⟩

end Sys2Proof.Machine
end

section
/-! The checksum as an exact sum modulo 256 (41_checksum_validator R170, R173). -/

namespace Sys2Proof.Machine

open Sys2Proof.Claims

/-- Truncation to eight bits is the remainder modulo 256 of the exact sum. -/
theorem toNat_sum8 (bs : List Byte) : (sum8 bs).toNat = exactSum bs % 256 := by
  rw [sum8, BitVec.toNat_ofNat, byteSum_eq_exactSum]

/-- A byte is the checksum exactly if it is the number that the exact sum leaves. -/
theorem eq_sum8_iff {x : Byte} {bs : List Byte} : x = sum8 bs ↔ x.toNat = exactSum bs % 256 := by
  rw [← BitVec.toNat_inj, toNat_sum8]

/-- Settles O47: the last three bytes do not enter the sum, and the first of them is compared with it. -/
theorem checksumIsTheTruncatedSum : Obligations.ChecksumIsTheTruncatedSum := by
  intro bytes x y z
  constructor
  · rw [checksum_append_three, toNat_sum8]
  · exact (validFrame_append_three bytes x y z).trans eq_sum8_iff

end Sys2Proof.Machine
end

section
/-! What the dispatcher answers on a key (42_dispatcher R200): the keys whose answer does not depend on the payload, the
texts (R204), and the indices outside their enumeration (R260). -/

namespace Sys2Proof.Machine

open Sys2Proof.Laws

/-! ### From a meaning to an answer -/

/-- An inbound instruction has its own key: on a well-formed one the decoder gives it back. -/
theorem hasKey_of_parts {i : Instr} {ctrl cmd : Byte} {payload : List Byte} (hparts : i.parts = .frame ctrl cmd payload)
    (hdecode : KeyRoundTrip.Statement i) : HasKey i ctrl cmd := by
  refine ⟨payload, hparts, fun hwf => ?_⟩
  have hok := hdecode hwf
  rw [hparts] at hok
  exact Except.ok.inj hok

/-- An instruction whose meaning is a report puts that report on the RX outputs. -/
theorem answers_of_report {i : Instr} {ctrl cmd : Byte} {payload : List Byte} {s : State} {r : Report} {ev : List Event}
    {d : Diag} (hparts : i.parts = .frame ctrl cmd payload) (hdecode : KeyRoundTrip.Statement i)
    (hexec : exec i s = report r s) (hreport : r = ⟨ev, d⟩) : Answers ctrl cmd i s ev d := by
  subst hreport
  exact ⟨hasKey_of_parts hparts hdecode, finishFrame ⟨ev, d⟩ s, hexec, rfl, rfl⟩

/-! ### The outcomes of the operand forms -/

theorem textReport_of_lt {bound : Nat} {payload : List Byte} (mk : List Byte → Event) (h : payload.length < bound) :
    textReport bound mk payload = oneEvent (mk payload) :=
  ((textReport_cases bound mk payload).resolve_left fun hlong => absurd hlong.1 (Nat.not_le.2 h)).2

theorem textReport_of_le {bound : Nat} {payload : List Byte} (mk : List Byte → Event) (h : bound ≤ payload.length) :
    textReport bound mk payload = outOfRange :=
  ((textReport_cases bound mk payload).resolve_right fun hshort => absurd hshort.1 (Nat.not_lt.2 h)).2

theorem lookup_of_le {α : Type} {table : List α} {p : Byte} (mk : α → Event) (h : table.length ≤ p.toNat) :
    lookup table mk p = outOfRange :=
  ((lookup_cases table mk p).resolve_right fun ⟨hin, _⟩ => absurd hin (Nat.not_lt.2 h)).2

theorem sceneIndex_of_outside {count p : Byte} (h : p.toNat = 0 ∨ count.toNat < p.toNat) :
    sceneIndex count p = outOfRange :=
  ((sceneIndex_cases count p).resolve_right fun ⟨hpos, hle, _⟩ => by omega).2

/-! ### Keys whose answer does not depend on the payload -/

/-- Settles O27: no payload is read; the rows for any other word report the words themselves. -/
theorem systemAndUnknownKeys : Obligations.SystemAndUnknownKeys := fun _ _ _ _ =>
  ⟨answers_of_report rfl (KeyRoundTrip.rx0101Heartbeat _) rfl rfl,
    answers_of_report rfl (KeyRoundTrip.rx0102ResetAck _) rfl rfl,
    answers_of_report rfl (KeyRoundTrip.rx01XXUnknown _ _) rfl rfl,
    answers_of_report rfl (KeyRoundTrip.rxXXXXUnknown _ _ _) rfl rfl⟩

/-- Settles O29: no payload is read. -/
theorem workStatusKeys : Obligations.WorkStatusKeys := fun _ _ _ =>
  ⟨answers_of_report rfl (KeyRoundTrip.rx0501InitStatus _) rfl rfl,
    answers_of_report rfl (KeyRoundTrip.rx0581InitStatus _) rfl rfl,
    answers_of_report rfl (KeyRoundTrip.rx0507Inert _) rfl rfl,
    answers_of_report rfl (KeyRoundTrip.rx0508Inert _) rfl rfl,
    answers_of_report rfl (KeyRoundTrip.rx0509Inert _) rfl rfl,
    answers_of_report rfl (KeyRoundTrip.rx0588Inert _) rfl rfl,
    answers_of_report rfl (KeyRoundTrip.rx0589Inert _) rfl rfl,
    answers_of_report rfl (KeyRoundTrip.rx05XXUnknown _ _) rfl rfl⟩

/-- Settles O37: no payload is read. -/
theorem lowParameterWordsAreInert : Obligations.LowParameterWordsAreInert := fun _ _ =>
  ⟨answers_of_report rfl (KeyRoundTrip.rx0808Inert _) rfl rfl,
    answers_of_report rfl (KeyRoundTrip.rx0809Inert _) rfl rfl,
    answers_of_report rfl (KeyRoundTrip.rx080AInert _) rfl rfl,
    answers_of_report rfl (KeyRoundTrip.rx080BInert _) rfl rfl,
    answers_of_report rfl (KeyRoundTrip.rx080CInert _) rfl rfl,
    answers_of_report rfl (KeyRoundTrip.rx080DInert _) rfl rfl,
    answers_of_report rfl (KeyRoundTrip.rx080EInert _) rfl rfl⟩

/-- Settles O38: no payload is read. -/
theorem mirrorParameterWordsAreInert : Obligations.MirrorParameterWordsAreInert := fun _ _ =>
  ⟨answers_of_report rfl (KeyRoundTrip.rx0888Inert _) rfl rfl,
    answers_of_report rfl (KeyRoundTrip.rx0889Inert _) rfl rfl,
    answers_of_report rfl (KeyRoundTrip.rx088AInert _) rfl rfl,
    answers_of_report rfl (KeyRoundTrip.rx088BInert _) rfl rfl,
    answers_of_report rfl (KeyRoundTrip.rx088CInert _) rfl rfl,
    answers_of_report rfl (KeyRoundTrip.rx088DInert _) rfl rfl,
    answers_of_report rfl (KeyRoundTrip.rx088EInert _) rfl rfl⟩

/-- Settles O39: no payload is read. -/
theorem presenceInertAndUnknownKeys : Obligations.PresenceInertAndUnknownKeys := fun _ _ _ =>
  ⟨answers_of_report rfl (KeyRoundTrip.rx800AInert _) rfl rfl,
    answers_of_report rfl (KeyRoundTrip.rx808AInert _) rfl rfl,
    answers_of_report rfl (KeyRoundTrip.rx80XXUnknown _ _) rfl rfl⟩

/-! ### Keys whose answer depends on the payload -/

/-- Settles O28: the bound alone decides whether the text is delivered. -/
theorem productTextKeys : Obligations.ProductTextKeys := by
  intro s cmd payload
  refine ⟨fun hshort => ?_, fun hlong => ?_, answers_of_report rfl (KeyRoundTrip.rx02XXUnknown cmd payload) rfl rfl⟩
  · have hreport := fun mk => textReport_of_lt mk hshort
    exact ⟨answers_of_report rfl (KeyRoundTrip.rx02A1ProductModel payload) rfl (hreport _),
      answers_of_report rfl (KeyRoundTrip.rx02A2ProductId payload) rfl (hreport _),
      answers_of_report rfl (KeyRoundTrip.rx02A3HardwareModel payload) rfl (hreport _),
      answers_of_report rfl (KeyRoundTrip.rx02A4FirmwareVersion payload) rfl (hreport _)⟩
  · have hreport := fun mk => textReport_of_le mk hlong
    exact ⟨answers_of_report rfl (KeyRoundTrip.rx02A1ProductModel payload) rfl (hreport _),
      answers_of_report rfl (KeyRoundTrip.rx02A2ProductId payload) rfl (hreport _),
      answers_of_report rfl (KeyRoundTrip.rx02A3HardwareModel payload) rfl (hreport _),
      answers_of_report rfl (KeyRoundTrip.rx02A4FirmwareVersion payload) rfl (hreport _)⟩

/-- Settles O36: the first byte is no index of the key's table, or no scene in 1..SCENE_COUNT. -/
theorem outOfRangeIndexGivesNoEvent : Obligations.OutOfRangeIndexGivesNoEvent := by
  intro s p more
  refine ⟨fun hthree => ?_, fun htwo => ?_, fun hscene => ?_⟩
  · have hkeepAway : lookup keepAwayTable .keepAwayState p = outOfRange := lookup_of_le _ hthree
    have hmotion : lookup motionTable .motionStatus p = outOfRange := lookup_of_le _ hthree
    exact ⟨answers_of_report rfl (KeyRoundTrip.rx0806KeepAway _) rfl hkeepAway,
      answers_of_report rfl (KeyRoundTrip.rx0886KeepAway _) rfl hkeepAway,
      answers_of_report rfl (KeyRoundTrip.rx800BKeepAway _) rfl hkeepAway,
      answers_of_report rfl (KeyRoundTrip.rx808BKeepAway _) rfl hkeepAway,
      answers_of_report rfl (KeyRoundTrip.rx8002MotionStatus _) rfl hmotion,
      answers_of_report rfl (KeyRoundTrip.rx8082MotionStatus _) rfl hmotion⟩
  · have hpresence : lookup presenceTable .humanPresence p = outOfRange := lookup_of_le _ htwo
    exact ⟨answers_of_report rfl (KeyRoundTrip.rx8001HumanPresence _) rfl hpresence,
      answers_of_report rfl (KeyRoundTrip.rx8081HumanPresence _) rfl hpresence⟩
  · exact answers_of_report rfl (KeyRoundTrip.rx0587SceneMode _) rfl (sceneIndex_of_outside hscene)

end Sys2Proof.Machine
end

section
/-! What the requests send (45_encoder R300): from the meaning of a request to its frame, and the requests whose frame does
not depend on the argument. -/

namespace Sys2Proof.Machine

open Sys2Proof.Claims Sys2Proof.Laws

/-! ### From a meaning to a frame -/

/-- A well-formed request has its own kind: the decoder gives it back. -/
theorem hasKind_of_parts {i : Instr} {kind : BitVec 4} {arg : Byte} (hparts : i.parts = .request kind arg)
    (hwf : i.wellFormed = true) (hdecode : KeyRoundTrip.Statement i) : HasKind i kind := by
  have hok := hdecode hwf
  rw [hparts] at hok
  exact ⟨arg, hparts, hok⟩

/-- Transmission puts the template on the TX port and changes nothing else. -/
theorem transmit_eq_template (ctrl cmd v : Byte) (s : State) :
    transmit ctrl cmd v s = .next { s with txValid := true, txFrame := template ctrl cmd v } := by
  rw [transmit, sendFrame, outboundFrame_eq_template]

/-- A request whose meaning is a transmission sends the template of its key and payload byte. -/
theorem sends_of_transmit {i : Instr} {kind : BitVec 4} {ctrl cmd v : Byte} {s : State} {frame : List Byte}
    (hkind : HasKind i kind) (hexec : exec i s = transmit ctrl cmd v s) (hframe : template ctrl cmd v = frame) :
    Sends kind i s frame := by
  subst hframe
  exact ⟨hkind, hexec.trans (transmit_eq_template ctrl cmd v s)⟩

/-! ### The heartbeat and the queries -/

/-- Settles O42: no argument is read, so each frame is a closed template, whose checksum is evaluated. -/
theorem heartbeatAndQueriesSendTheirTemplate : Obligations.HeartbeatAndQueriesSendTheirTemplate := fun _ arg =>
  ⟨sends_of_transmit (hasKind_of_parts rfl rfl (KeyRoundTrip.txHeartbeat arg)) rfl rfl,
    sends_of_transmit (hasKind_of_parts rfl rfl (KeyRoundTrip.txQueryOutputSwitch arg)) rfl rfl,
    sends_of_transmit (hasKind_of_parts rfl rfl (KeyRoundTrip.txQueryProductMode arg)) rfl rfl,
    sends_of_transmit (hasKind_of_parts rfl rfl (KeyRoundTrip.txQueryProductId arg)) rfl rfl,
    sends_of_transmit (hasKind_of_parts rfl rfl (KeyRoundTrip.txQueryHardwareModel arg)) rfl rfl,
    sends_of_transmit (hasKind_of_parts rfl rfl (KeyRoundTrip.txQueryFirmwareVersion arg)) rfl rfl,
    sends_of_transmit (hasKind_of_parts rfl rfl (KeyRoundTrip.txQueryHumanStatus arg)) rfl rfl,
    sends_of_transmit (hasKind_of_parts rfl rfl (KeyRoundTrip.txQueryKeepAway arg)) rfl rfl⟩

end Sys2Proof.Machine
end

section
/-! Which report a valid frame's key gets (42_dispatcher R200, R262): the one event `Unrecognized` exactly for a key that the
source does not name (60_exceptions R334). -/

namespace Sys2Proof.Machine

/-! ### Reports of the rows that name their key -/

/-- A report of a row that names its key: no diagnostic, or one of the dispatcher's diagnostics that come without an event. -/
def Report.Recognized (r : Report) : Prop := r.diag = .none ∨ r.events = [] ∧ r.diag.quietDispatch = true

@[simp] theorem oneEvent_recognized (e : Event) : (oneEvent e).Recognized := .inl rfl

@[simp] theorem outOfRange_recognized : outOfRange.Recognized := .inr ⟨rfl, rfl⟩

@[simp] theorem noEvent_recognized {d : Diag} : (noEvent d).Recognized ↔ d = .none ∨ d.quietDispatch = true := by
  simp [Report.Recognized]

@[simp] theorem withByte_recognized {payload : List Byte} {k : Nat} {handle : Byte → Report}
    (h : ∀ p, (handle p).Recognized) : (withByte payload k handle).Recognized := by
  rcases withByte_cases payload k handle with ⟨-, hr⟩ | ⟨_, hr⟩ <;> simp [hr, h]

@[simp] theorem lookup_recognized {α : Type} (table : List α) (mk : α → Event) (p : Byte) :
    (lookup table mk p).Recognized := by
  rcases lookup_cases table mk p with ⟨-, hr⟩ | ⟨_, hr⟩ <;> simp [hr]

@[simp] theorem sceneIndex_recognized (count p : Byte) : (sceneIndex count p).Recognized := by
  rcases sceneIndex_cases count p with ⟨-, hr⟩ | ⟨-, -, hr⟩ <;> simp [hr]

@[simp] theorem textReport_recognized (bound : Nat) (mk : List Byte → Event) (payload : List Byte) :
    (textReport bound mk payload).Recognized := by
  rcases textReport_cases bound mk payload with ⟨-, hr⟩ | ⟨-, hr⟩ <;> simp [hr]

@[simp] theorem packedReport_recognized (payload : List Byte) : (packedReport payload).Recognized := by
  rcases packedReport_cases payload with ⟨-, hr⟩ | ⟨_, _, _, _, _, _, -, hr⟩
  · simp [hr]
  · exact .inl (congrArg Report.diag hr)

/-! ### Unnamed keys under each control word -/

@[simp] theorem unnamedKey_01 {cmd : Byte} : UnnamedKey 0x01#8 cmd ↔ cmd ∉ knownCommands01 := by
  simp [UnnamedKey, knownControls]

@[simp] theorem unnamedKey_02 {cmd : Byte} : UnnamedKey 0x02#8 cmd ↔ cmd ∉ knownCommands02 := by
  simp [UnnamedKey, knownControls]

@[simp] theorem unnamedKey_05 {cmd : Byte} : UnnamedKey 0x05#8 cmd ↔ cmd ∉ knownCommands05 := by
  simp [UnnamedKey, knownControls]

@[simp] theorem unnamedKey_08 {cmd : Byte} : UnnamedKey 0x08#8 cmd ↔ cmd ∉ knownCommands08 := by
  simp [UnnamedKey, knownControls]

@[simp] theorem unnamedKey_80 {cmd : Byte} : UnnamedKey 0x80#8 cmd ↔ cmd ∉ knownCommands80 := by
  simp [UnnamedKey, knownControls]

/-! ### The report of a key's instruction -/

/-- What the dispatcher may report for a key: `unknownKey` for an unnamed one, a recognized report for a named one. -/
inductive KeyReport (ctrl cmd : Byte) (r : Report) : Prop
  | unnamed (hkey : UnnamedKey ctrl cmd) (hr : r = unknownKey ctrl cmd)
  | named (hkey : ¬UnnamedKey ctrl cmd) (hr : r.Recognized)

/-- The instruction finishes its frame, in every state, with a report that the key may have. -/
def ReportsForKey (ctrl cmd : Byte) (i : Instr) : Prop :=
  ∃ r, (∀ s, exec i s = .next (finishFrame r s)) ∧ KeyReport ctrl cmd r

/-- A row that names its key. -/
theorem ReportsForKey.of_named {ctrl cmd : Byte} {i : Instr} {r : Report} (hkey : ¬UnnamedKey ctrl cmd)
    (hexec : ∀ s, exec i s = report r s) (hr : r.Recognized) : ReportsForKey ctrl cmd i :=
  ⟨r, hexec, .named hkey hr⟩

/-- A row for any other word. -/
theorem ReportsForKey.of_unnamed {ctrl cmd : Byte} {i : Instr} (hkey : UnnamedKey ctrl cmd)
    (hexec : ∀ s, exec i s = report (unknownKey ctrl cmd) s) : ReportsForKey ctrl cmd i :=
  ⟨_, hexec, .unnamed hkey rfl⟩

theorem decodeSystem_reportsForKey (cmd : Byte) (payload : List Byte) :
    ReportsForKey 0x01#8 cmd (decodeSystem cmd payload) := by
  unfold decodeSystem
  repeat
    refine iteInduction ?_ fun _ => ?_
    · rintro rfl; exact .of_named (by simp [knownCommands01]) (fun _ => rfl) (by simp [Diag.quietDispatch])
  exact .of_unnamed (by simp_all [knownCommands01]) fun _ => rfl

theorem decodeProduct_reportsForKey (cmd : Byte) (payload : List Byte) :
    ReportsForKey 0x02#8 cmd (decodeProduct cmd payload) := by
  unfold decodeProduct
  repeat
    refine iteInduction ?_ fun _ => ?_
    · rintro rfl; exact .of_named (by simp [knownCommands02]) (fun _ => rfl) (by simp)
  exact .of_unnamed (by simp_all [knownCommands02]) fun _ => rfl

theorem decodeWorkStatus_reportsForKey (cmd : Byte) (payload : List Byte) :
    ReportsForKey 0x05#8 cmd (decodeWorkStatus cmd payload) := by
  unfold decodeWorkStatus
  repeat
    refine iteInduction ?_ fun _ => ?_
    · rintro rfl; exact .of_named (by simp [knownCommands05]) (fun _ => rfl) (by simp [Diag.quietDispatch])
  exact .of_unnamed (by simp_all [knownCommands05]) fun _ => rfl

theorem decodeParameters_reportsForKey (cmd : Byte) (payload : List Byte) :
    ReportsForKey 0x08#8 cmd (decodeParameters cmd payload) := by
  unfold decodeParameters
  repeat
    refine iteInduction ?_ fun _ => ?_
    · rintro rfl; exact .of_named (by simp [knownCommands08]) (fun _ => rfl) (by simp [Diag.quietDispatch])
  exact .of_unnamed (by simp_all [knownCommands08]) fun _ => rfl

theorem decodePresence_reportsForKey (cmd : Byte) (payload : List Byte) :
    ReportsForKey 0x80#8 cmd (decodePresence cmd payload) := by
  unfold decodePresence
  repeat
    refine iteInduction ?_ fun _ => ?_
    · rintro rfl; exact .of_named (by simp [knownCommands80]) (fun _ => rfl) (by simp [Diag.quietDispatch])
  exact .of_unnamed (by simp_all [knownCommands80]) fun _ => rfl

/-- The decoder picks the row for any other word exactly for the keys that the source does not name. -/
theorem decodeKey_reportsForKey (ctrl cmd : Byte) (payload : List Byte) :
    ReportsForKey ctrl cmd (decodeKey ctrl cmd payload) := by
  unfold decodeKey
  split_ifs with h1 h2 h5 h8 h80
  · exact h1 ▸ decodeSystem_reportsForKey cmd payload
  · exact h2 ▸ decodeProduct_reportsForKey cmd payload
  · exact h5 ▸ decodeWorkStatus_reportsForKey cmd payload
  · exact h8 ▸ decodeParameters_reportsForKey cmd payload
  · exact h80 ▸ decodePresence_reportsForKey cmd payload
  · exact .of_unnamed (.inl (by simp [knownControls, *])) fun _ => rfl

end Sys2Proof.Machine
end

section
/-! The diagnostics of an RX step (60_exceptions R330 to R336): every way in which a step can end, and from it the causes of
each code. -/

namespace Sys2Proof.Machine

/-! ### The held frame and its checksum -/

theorem frameSum_append_three (bs : List Byte) (x y z : Byte) : frameSum (bs ++ [x, y, z]) = exactSum bs % 256 := by
  simp [frameSum]

/-- The two length bytes of the raw frame are the quotient and the remainder of `len`. -/
theorem rawFrame_payloadOf (s : State) : rawFrame s (payloadOf s) = heldFrame s := by
  have hhi : s.len.extractLsb' 8 8 = BitVec.ofNat 8 (s.len.toNat / 256) := by
    simp [BitVec.extractLsb', Nat.shiftRight_eq_div_pow]
  have hlo : s.len.extractLsb' 0 8 = BitVec.ofNat 8 s.len.toNat := by simp [BitVec.extractLsb']
  simp only [rawFrame, hhi, hlo]
  rfl

/-- The validator accepts the held frame exactly if `crc` is the sum of the bytes before it (41_checksum_validator R173). -/
theorem validFrame_heldFrame {s : State} : validFrame (heldFrame s) = true ↔ s.crc.toNat = frameSum (heldFrame s) := by
  rw [heldFrame, frameSum_append_three]
  exact (checksumIsTheTruncatedSum _ _ _ _).2

/-! ### Every way in which an RX step can end -/

/-- The step takes the byte that completes a frame (R147). -/
def TakesLastByte (b : Byte) (s : State) : Prop := s.st = .expectT2 ∧ b = 0x43#8

/-- The outcome of a row other than the completion: the RX outputs as they were, or an abort with one of two codes. -/
inductive RowOutcome (s t : State) : Prop
  | passed (hev : t.ev = s.ev) (hdiag : t.diag = s.diag)
  | aborted (d : Diag) (hd : d = .framingDesync ∨ d = .payloadOutOfRange) (ht : t = abort d s)

theorem hunt_rowOutcome (b : Byte) (s : State) : RowOutcome s (hunt b s) := by
  unfold hunt
  split <;> exact .passed rfl rfl

/-- A row that tests its byte and aborts with FRAMING_DESYNC when the test fails. -/
theorem RowOutcome.of_test {c : Prop} [Decidable c] {s u : State} (hev : u.ev = s.ev) (hdiag : u.diag = s.diag) :
    RowOutcome s (if c then u else abort .framingDesync s) := by
  split
  · exact .passed hev hdiag
  · exact .aborted _ (.inl rfl) rfl

theorem acceptLenLo_rowOutcome (b : Byte) (s : State) : RowOutcome s (acceptLenLo b s) := by
  simp only [acceptLenLo]
  split_ifs
  · exact .aborted _ (.inr rfl) rfl
  · exact .passed rfl rfl
  · exact .passed rfl rfl

theorem rxStep_expectT2 {s : State} (b : Byte) (h : s.st = .expectT2) : rxStep b s = acceptTail2 b (quiet s) := by
  simp only [rxStep, h]

/-- A step that does not complete a frame ends as its row does. -/
theorem rxStep_rowOutcome {b : Byte} {s t : State} (h : rxStep b s = .next t) (hlast : ¬TakesLastByte b s) :
    RowOutcome (quiet s) t := by
  have of_row {u : State} (hrow : rxStep b s = .next u) (hu : RowOutcome (quiet s) u) : RowOutcome (quiet s) t :=
    Host.Outcome.next.inj (hrow.symm.trans h) ▸ hu
  cases hst : s.st with
  | idle => exact of_row (rxStep_idle b hst) (hunt_rowOutcome b _)
  | sawH1 => exact of_row (rxStep_sawH1 b hst) (.of_test rfl rfl)
  | afterH2 => exact of_row (rxStep_afterH2 b hst) (.passed rfl rfl)
  | readCtrl => exact of_row (rxStep_readCtrl b hst) (.passed rfl rfl)
  | readLenHi => exact of_row (rxStep_readLenHi b hst) (.of_test rfl rfl)
  | readLenLo => exact of_row (rxStep_readLenLo b hst) (acceptLenLo_rowOutcome b _)
  | readPayload =>
    obtain ⟨-, rfl⟩ := acceptPayload_next ((rxStep_readPayload b hst).symm.trans h)
    exact .passed rfl rfl
  | readCrc => exact of_row (rxStep_readCrc b hst) (.passed rfl rfl)
  | sawT1 => exact of_row (rxStep_sawT1 b hst) (.of_test rfl rfl)
  | expectT2 =>
    have hrow : rxStep b s = .next (abort .framingDesync (quiet s)) :=
      (rxStep_expectT2 b hst).trans (if_neg fun hb => hlast ⟨hst, hb⟩)
    exact of_row hrow (.aborted _ (.inl rfl) rfl)
  | readCmd | unused11 | unused12 | unused13 | unused14 | unused15 =>
    exact of_row (rxStep_unreachable b (by rw [hst]; rfl)) (hunt_rowOutcome b _)

/-- Every way in which an RX step can end: silent, aborted by a structural check, or with a completed frame, whose checksum is
wrong or whose key is dispatched. -/
inductive RxOutcome (b : Byte) (s t : State) : Prop
  | silent (hlast : ¬TakesLastByte b s) (hev : t.ev = []) (hdiag : t.diag = .none)
  | aborted (hlast : ¬TakesLastByte b s) (d : Diag) (hd : d = .framingDesync ∨ d = .payloadOutOfRange)
      (ht : t = abort d (quiet s))
  | mismatched (hlast : TakesLastByte b s) (hsum : s.crc.toNat ≠ frameSum (heldFrame s))
      (ht : t = finishFrame ⟨[], .checksumMismatch⟩ (quiet s))
  | dispatched (hlast : TakesLastByte b s) (hsum : s.crc.toNat = frameSum (heldFrame s)) (r : Report)
      (hkey : KeyReport s.ctrl s.cmd r) (ht : t = finishFrame r (quiet s))

/-- The byte that completes a frame validates it, and dispatches its key when the checksum is right (R152). -/
theorem rxStep_lastByte {b : Byte} {s t : State} (h : rxStep b s = .next t) (hlast : TakesLastByte b s) :
    RxOutcome b s t := by
  have hcomplete : rxStep b s = complete (quiet s) := (rxStep_expectT2 b hlast.1).trans (if_pos hlast.2)
  rw [hcomplete] at h
  obtain ⟨hlen, -⟩ := complete_next h
  rw [complete_of_le hlen, rawFrame_payloadOf] at h
  split at h
  · next hvalid =>
    obtain ⟨r, hexec, hkey⟩ := decodeKey_reportsForKey s.ctrl s.cmd (payloadOf (quiet s))
    exact .dispatched hlast (validFrame_heldFrame.1 hvalid) r hkey (Host.Outcome.next.inj (h.symm.trans (hexec _)))
  · next hinvalid =>
    exact .mismatched hlast (fun hsum => hinvalid (validFrame_heldFrame.2 hsum)) (Host.Outcome.next.inj h).symm

theorem rxStep_outcome {b : Byte} {s t : State} (h : rxStep b s = .next t) : RxOutcome b s t := by
  by_cases hlast : TakesLastByte b s
  · exact rxStep_lastByte h hlast
  · cases rxStep_rowOutcome h hlast with
    | passed hev hdiag => exact .silent hlast hev hdiag
    | aborted d hd ht => exact .aborted hlast d hd ht

/-! ### The codes that each outcome can have -/

/-- A recognized report with an event has no diagnostic. -/
theorem Report.Recognized.diag_eq_none {r : Report} (h : r.Recognized) (hev : r.events ≠ []) : r.diag = .none :=
  h.resolve_right fun ⟨hnil, _⟩ => hev hnil

/-- A recognized report has none of the codes that are not the dispatcher's for a named key. -/
theorem Report.Recognized.diag_ne {r : Report} {d : Diag} (h : r.Recognized) (hnone : d ≠ .none)
    (hd : d.quietDispatch = false) : r.diag ≠ d := by
  rintro rfl
  rcases h with h | ⟨-, h⟩
  · exact hnone h
  · exact absurd h (by simp [hd])

theorem KeyReport.diag_ne_checksumMismatch {ctrl cmd : Byte} {r : Report} (h : KeyReport ctrl cmd r) :
    r.diag ≠ .checksumMismatch := by
  cases h with
  | unnamed _ hr => simp [hr]
  | named _ hr => exact hr.diag_ne (by decide) rfl

/-- A structural abort has one of its own two codes. -/
theorem diag_abort_ne {d e : Diag} {s : State} (hd : d = .framingDesync ∨ d = .payloadOutOfRange)
    (he : e ≠ .framingDesync ∧ e ≠ .payloadOutOfRange) : (abort d s).diag ≠ e := by
  rcases hd with rfl | rfl
  · exact he.1.symm
  · exact he.2.symm

/-! ### Clear, and the hunt after it -/

/-- Clear leaves every register at its reset value (R151). -/
theorem cleared_clear (s : State) : Cleared (clear s) := ⟨rfl, rfl, rfl, rfl, rfl, rfl, fun _ => rfl, rfl⟩

@[simp] theorem hunt_diag (b : Byte) (s : State) : (hunt b s).diag = s.diag := by
  unfold hunt
  split <;> rfl

theorem hunt_st_eq_sawH1 {b : Byte} {s : State} : (hunt b s).st = .sawH1 ↔ b = header1 := by
  by_cases h : b = header1 <;> simp [hunt, h]

/-- From IDLE the RX step takes any byte without a diagnostic, and only header1 starts an attempt. -/
theorem rxStep_idle_hunts {s : State} (hst : s.st = .idle) (b : Byte) :
    ∃ t, rxStep b s = .next t ∧ t.diag = .none ∧ (t.st = .sawH1 ↔ b = 0x53#8) :=
  ⟨_, rxStep_idle b hst, by simp, hunt_st_eq_sawH1⟩

/-- A step with a diagnostic ends in Clear, whether it aborts or finishes a frame. -/
theorem RxOutcome.cleared {b : Byte} {s t : State} (h : RxOutcome b s t) (hdiag : t.diag ≠ .none) : Cleared t := by
  cases h with
  | silent _ _ hnone => exact absurd hnone hdiag
  | aborted _ d _ ht => exact ht ▸ cleared_clear _
  | mismatched _ _ ht => exact ht ▸ cleared_clear _
  | dispatched _ _ r _ ht => exact ht ▸ cleared_clear _

/-! ### The statements -/

/-- Settles O23: of the four outcomes only the mismatch has the code. -/
theorem checksumMismatchHasOneCause : Obligations.ChecksumMismatchHasOneCause := by
  intro s t b h
  cases rxStep_outcome h with
  | silent hlast hev hdiag =>
    exact ⟨iff_of_false (by simp [hdiag]) fun ⟨hst, hb, _⟩ => hlast ⟨hst, hb⟩, fun _ => hev⟩
  | aborted hlast d hd ht =>
    subst ht
    exact ⟨iff_of_false (diag_abort_ne hd (by decide)) fun ⟨hst, hb, _⟩ => hlast ⟨hst, hb⟩, fun _ => rfl⟩
  | mismatched hlast hsum ht =>
    subst ht
    exact ⟨iff_of_true rfl ⟨hlast.1, hlast.2, hsum⟩, fun _ => rfl⟩
  | dispatched _ hsum r hkey ht =>
    subst ht
    exact ⟨iff_of_false hkey.diag_ne_checksumMismatch fun ⟨_, _, hne⟩ => hne hsum,
      fun hd => absurd hd hkey.diag_ne_checksumMismatch⟩

/-- Settles O24: only a dispatched key can have the code, and it does exactly when it is unnamed. -/
theorem unknownCommandIsReportedAsUnrecognized : Obligations.UnknownCommandIsReportedAsUnrecognized := by
  intro s t b h
  cases rxStep_outcome h with
  | silent hlast hev hdiag =>
    have hno : t.diag ≠ .unknownCommand := by simp [hdiag]
    exact ⟨iff_of_false hno fun ⟨hst, hb, _⟩ => hlast ⟨hst, hb⟩, fun hd => absurd hd hno, fun hd => absurd hdiag hd⟩
  | aborted hlast d hd ht =>
    subst ht
    have hno := diag_abort_ne (e := .unknownCommand) (s := quiet s) hd (by decide)
    exact ⟨iff_of_false hno fun ⟨hst, hb, _⟩ => hlast ⟨hst, hb⟩, fun hd => absurd hd hno, fun _ hev => absurd rfl hev⟩
  | mismatched _ hsum ht =>
    subst ht
    exact ⟨iff_of_false (by simp) fun ⟨_, _, heq, _⟩ => hsum heq, fun hd => by simp at hd, fun _ hev => absurd rfl hev⟩
  | dispatched hlast hsum r hkey ht =>
    subst ht
    cases hkey with
    | unnamed hkey hr =>
      subst hr
      exact ⟨iff_of_true rfl ⟨hlast.1, hlast.2, hsum, hkey⟩, fun _ => rfl, fun _ _ => rfl⟩
    | named hkey hr =>
      have hno : r.diag ≠ .unknownCommand := hr.diag_ne (by decide) rfl
      exact ⟨iff_of_false hno fun ⟨_, _, _, hunnamed⟩ => hkey hunnamed, fun hd => absurd hd hno,
        fun hd hev => absurd (hr.diag_eq_none hev) hd⟩

/-- Settles O25: the step clears the Framer, and a cleared Framer is in IDLE, where the next byte is hunted. -/
theorem everyConditionClearsTheFramer : Obligations.EveryConditionClearsTheFramer := by
  intro s t b h hdiag
  have hclear := (rxStep_outcome h).cleared hdiag
  exact ⟨hclear, rxStep_idle_hunts hclear.st⟩

end Sys2Proof.Machine
end

section
/-! Frames and requests decode to what they encode, and encode what they decode to (30_encoding R90 to R96, R103). -/

namespace Sys2Proof

open Machine Laws

/-! ### The encoder (30_encoding R90, R92) -/

/-- The bytes of a frame that its checksum covers, written from the key and the payload. -/
def coveredBytes (ctrl cmd : Byte) (payload : List Byte) : List Byte :=
  [header1, header2, ctrl, cmd, BitVec.ofNat 8 (payload.length / 256), BitVec.ofNat 8 payload.length] ++ payload

@[simp] theorem coveredBytes_length (ctrl cmd : Byte) (payload : List Byte) :
    (coveredBytes ctrl cmd payload).length = payload.length + 6 := by
  simp [coveredBytes]

/-- A frame is the covered bytes, their sum, and the tail. -/
theorem encodeFrame_eq (ctrl cmd : Byte) (payload : List Byte) :
    encodeFrame ctrl cmd payload =
      coveredBytes ctrl cmd payload ++ [sum8 (coveredBytes ctrl cmd payload), tail1, tail2] :=
  congrArg (fun crc => coveredBytes ctrl cmd payload ++ [crc, tail1, tail2])
    (checksum_append_three (coveredBytes ctrl cmd payload) _ _ _)

@[simp] theorem encodeFrame_length (ctrl cmd : Byte) (payload : List Byte) :
    (encodeFrame ctrl cmd payload).length = payload.length + 9 := by
  simp [encodeFrame_eq]

/-! ### The frame decoder, as one equivalence -/

/-- Field by field: what an input that decodes is made of, in the order of the checks. -/
theorem decodeFrame_eq_ok_fields {bs rest : List Byte} {i : Instr} :
    decodeFrame bs = .ok (i, rest) ↔ ∃ ctrl cmd lenHi lenLo payload crc,
      lenHi.toNat ≤ Config.lenHiMax ∧ payload.length = lenHi.toNat * 256 + lenLo.toNat ∧
      payload.length ≤ Config.maxPayload ∧ validFrame (frameBytes ctrl cmd lenHi lenLo payload crc) = true ∧
      i = decodeKey ctrl cmd payload ∧ bs = frameBytes ctrl cmd lenHi lenLo payload crc ++ rest := by
  simp only [decodeFrame, except_bind_eq_ok, Prod.exists, takeByte_eq_ok, takeBytes_eq_ok, require_eq_ok, beq_iff_eq,
    decide_eq_true_eq]
  constructor
  · rintro ⟨_, _, rfl, _, rfl, _, _, rfl, _, rfl, ctrl, _, rfl, cmd, _, rfl, lenHi, _, rfl, _, hhi, lenLo, _, rfl, _, hfits,
      payload, _, ⟨hlen, rfl⟩, crc, _, rfl, _, _, rfl, _, rfl, _, _, rfl, _, rfl, _, hvalid, hout⟩
    cases hout
    exact ⟨ctrl, cmd, lenHi, lenLo, payload, crc, hhi, hlen, hlen ▸ hfits, hvalid, rfl, by simp [frameBytes]⟩
  · rintro ⟨ctrl, cmd, lenHi, lenLo, payload, crc, hhi, hlen, hfits, hvalid, rfl, rfl⟩
    exact ⟨_, _, rfl, (), rfl, _, _, rfl, (), rfl, ctrl, _, rfl, cmd, _, rfl, lenHi, _, rfl, (), hhi, lenLo, _, rfl, (),
      hlen ▸ hfits, payload, _, ⟨hlen, by simp⟩, crc, _, rfl, _, _, rfl, (), rfl, _, _, rfl, (), rfl, (), hvalid, rfl⟩

/-- A length of at most 32 has the length-high byte 0. -/
theorem length_bytes_of_le {n : Nat} {lenHi lenLo : Byte} (hn : n ≤ Config.maxPayload) :
    n = lenHi.toNat * 256 + lenLo.toNat ↔ lenHi = BitVec.ofNat 8 (n / 256) ∧ lenLo = BitVec.ofNat 8 n := by
  have hn' : n ≤ 32 := hn
  rw [← BitVec.toNat_inj, ← BitVec.toNat_inj, BitVec.toNat_ofNat, BitVec.toNat_ofNat]
  omega

/-- An input decodes exactly if it begins with the encoding of a key and a payload that fits. -/
theorem decodeFrame_eq_ok {bs rest : List Byte} {i : Instr} :
    decodeFrame bs = .ok (i, rest) ↔ ∃ ctrl cmd payload, payload.length ≤ Config.maxPayload ∧
      i = decodeKey ctrl cmd payload ∧ bs = encodeFrame ctrl cmd payload ++ rest := by
  rw [decodeFrame_eq_ok_fields]
  constructor
  · rintro ⟨ctrl, cmd, lenHi, lenLo, payload, crc, -, hlen, hfits, hvalid, rfl, rfl⟩
    obtain ⟨rfl, rfl⟩ := (length_bytes_of_le hfits).1 hlen
    have hcrc : crc = sum8 (coveredBytes ctrl cmd payload) := (validFrame_append_three _ _ _ _).1 hvalid
    exact ⟨ctrl, cmd, payload, hfits, rfl, by rw [encodeFrame_eq, hcrc]; rfl⟩
  · rintro ⟨ctrl, cmd, payload, hfits, rfl, rfl⟩
    have hlen := (length_bytes_of_le hfits).2 ⟨rfl, rfl⟩
    exact ⟨ctrl, cmd, _, _, payload, _, by simp only [Config.maxPayload, Config.lenHiMax] at *; omega, hlen, hfits,
      (validFrame_append_three _ _ _ _).2 rfl, rfl, by rw [encodeFrame_eq]; rfl⟩

/-! ### Well-formed instructions -/

/-- The key or the request of a well-formed instruction decodes to it. -/
theorem keyRoundTrip (i : Instr) : KeyRoundTrip.Statement i := by
  cases i
  case rx01XXUnknown cmd payload => exact KeyRoundTrip.rx01XXUnknown cmd payload
  case rx02XXUnknown cmd payload => exact KeyRoundTrip.rx02XXUnknown cmd payload
  case rx05XXUnknown cmd payload => exact KeyRoundTrip.rx05XXUnknown cmd payload
  case rx08XXUnknown cmd payload => exact KeyRoundTrip.rx08XXUnknown cmd payload
  case rx80XXUnknown cmd payload => exact KeyRoundTrip.rx80XXUnknown cmd payload
  case rxXXXXUnknown ctrl cmd payload => exact KeyRoundTrip.rxXXXXUnknown ctrl cmd payload
  all_goals exact fun _ => rfl

/-- A well-formed inbound frame is what the decoder gives for its key, and its payload fits the buffer. -/
theorem wellFormed_frame {i : Instr} {ctrl cmd : Byte} {payload : List Byte} (hwf : i.wellFormed = true)
    (hparts : i.parts = .frame ctrl cmd payload) :
    i = decodeKey ctrl cmd payload ∧ payload.length ≤ Config.maxPayload := by
  have hdecode := keyRoundTrip i hwf
  rw [hparts] at hdecode
  refine ⟨(Except.ok.inj hdecode).symm, ?_⟩
  cases i <;> cases hparts <;> simp_all [Instr.wellFormed, payloadFits]

/-- A request is well-formed whatever its argument. -/
theorem wellFormed_request {i : Instr} {kind : BitVec 4} {arg : Byte} (hparts : i.parts = .request kind arg) :
    i.wellFormed = true := by
  cases i <;> cases hparts <;> rfl

/-! ### The statements -/

/-- Settles O49: the encoder writes the parts, and the parts decode to the instruction. -/
theorem decodeOfEncode : Obligations.DecodeOfEncode := by
  intro i hwf
  cases hparts : i.parts with
  | frame ctrl cmd payload =>
    obtain ⟨hi, hfits⟩ := wellFormed_frame hwf hparts
    have hencode : encode i = .frame (encodeFrame ctrl cmd payload) := by simp only [encode, hparts]
    have hdecode (rest : List Byte) : decodeFrame (encodeFrame ctrl cmd payload ++ rest) = .ok (i, rest) :=
      decodeFrame_eq_ok.2 ⟨ctrl, cmd, payload, hfits, hi, rfl⟩
    refine ⟨?_, fun bytes rest hbytes => ?_⟩
    · have hwhole : decodeFrame (encodeFrame ctrl cmd payload) = .ok (i, []) := by simpa using hdecode []
      simp only [hencode, decode, hwhole]
    · obtain rfl : encodeFrame ctrl cmd payload = bytes := Encoding.frame.inj (hencode.symm.trans hbytes)
      exact hdecode rest
  | request kind arg =>
    have hencode : encode i = .request kind arg := by simp only [encode, hparts]
    have hdecode := keyRoundTrip i hwf
    rw [hparts] at hdecode
    exact ⟨by rw [hencode]; exact hdecode, fun bytes rest hbytes => by simp [hencode] at hbytes⟩

/-- Settles O50: a decoded frame has its key's parts and a payload that fits; a decoded request has its own parts. -/
theorem encodeOfDecode : Obligations.EncodeOfDecode := by
  constructor
  · intro bytes rest i hdecode
    obtain ⟨ctrl, cmd, payload, hfits, rfl, rfl⟩ := decodeFrame_eq_ok.1 hdecode
    exact ⟨decodeKey_wellFormed ctrl cmd hfits, _, by simp only [encode, decodeKey_parts], rfl⟩
  · intro kind arg i hdecode
    have hparts := decodeRequest_parts hdecode
    exact ⟨wellFormed_request hparts, by simp only [encode, hparts]⟩

/-- Settles O51: the length bytes of an encoded frame are those of a payload of at most 32 bytes. -/
theorem decodedFramesHaveStructuralLength : Obligations.DecodedFramesHaveStructuralLength := by
  intro bytes rest i hdecode
  obtain ⟨ctrl, cmd, payload, hfits, -, rfl⟩ := decodeFrame_eq_ok.1 hdecode
  have hfits' : payload.length ≤ 32 := hfits
  have hlenLo : (BitVec.ofNat 8 payload.length).toNat = payload.length := toNat_ofNat_of_lt (by omega)
  refine ⟨?_, BitVec.ofNat 8 payload.length, ?_, hlenLo.trans_le hfits', ?_⟩
  · have hlenHi : payload.length / 256 = 0 := by omega
    simp [encodeFrame_eq, coveredBytes, hlenHi]
  · simp [encodeFrame_eq, coveredBytes]
  · simp [hlenLo]
    omega

/-- Settles O52: each frame is the encoding of a key and a payload, and each table word stands for such a frame or for a
request. -/
theorem specWordsDecode : Obligations.SpecWordsDecode :=
  ⟨decodeFrame_eq_ok.2 ⟨0x08#8, 0x00#8, [0x01#8], by decide, rfl, rfl⟩,
    decodeFrame_eq_ok.2 ⟨0x08#8, 0x01#8, [0x20#8, 0x06#8, 0x31#8, 0x04#8, 0x0C#8], by decide, rfl, rfl⟩,
    decodeFrame_eq_ok.2 ⟨0x53#8, 0x59#8, [], by decide, rfl, rfl⟩,
    decodeFrame_eq_ok.2 ⟨0x02#8, 0xA1#8, [0x41#8, 0x42#8, 0x43#8], by decide, rfl, rfl⟩,
    by rfl, by rfl, by rfl, by rfl⟩

end Sys2Proof
end

section
/-! The dispatcher (42_dispatcher R200): the shape of every result (R262), what a dispatched frame leaves, and the keys that
read payload bytes. -/

namespace Sys2Proof.Machine

open Sys2Proof.Laws

/-! ### The shape of a report (R262) -/

/-- The report has one of the four shapes, and every event in it is of its type. -/
def Report.Shaped (r : Report) : Prop := DispatchShape r.events r.diag

theorem oneEvent_shaped {e : Event} (hnamed : e.isUnrecognized = false) (hfits : e.fits = true) : (oneEvent e).Shaped :=
  ⟨.inl ⟨e, rfl, hnamed, rfl⟩, by simpa using hfits⟩

theorem noEvent_shaped {d : Diag} (h : d.quietDispatch = true) : (noEvent d).Shaped :=
  ⟨.inr (.inr (.inr ⟨rfl, h⟩)), by simp⟩

theorem outOfRange_shaped : outOfRange.Shaped := noEvent_shaped rfl

theorem unknownKey_shaped (ctrl cmd : Byte) : (unknownKey ctrl cmd).Shaped :=
  ⟨.inr (.inr (.inl ⟨ctrl, cmd, rfl, rfl⟩)), by simp [Event.fits]⟩

theorem withByte_shaped {payload : List Byte} {k : Nat} {handle : Byte → Report} (h : ∀ p, (handle p).Shaped) :
    (withByte payload k handle).Shaped := by
  rcases withByte_cases payload k handle with ⟨-, hr⟩ | ⟨_, hr⟩ <;> rw [hr]
  · exact outOfRange_shaped
  · exact h _

theorem lookup_shaped {α : Type} {table : List α} {mk : α → Event} {p : Byte} (hnamed : ∀ v, (mk v).isUnrecognized = false)
    (hfits : ∀ v, (mk v).fits = true) : (lookup table mk p).Shaped := by
  rcases lookup_cases table mk p with ⟨-, hr⟩ | ⟨_, hr⟩ <;> rw [hr]
  · exact outOfRange_shaped
  · exact oneEvent_shaped (hnamed _) (hfits _)

/-- A scene byte in 1..SCENE_COUNT gives an index below SCENE_COUNT. -/
theorem sceneIndex_shaped (p : Byte) : (sceneIndex Config.sceneCount p).Shaped := by
  rcases sceneIndex_cases Config.sceneCount p with ⟨-, hr⟩ | ⟨hpos, hle, hr⟩ <;> rw [hr]
  · exact outOfRange_shaped
  · refine oneEvent_shaped rfl (decide_eq_true ?_)
    have hsub : (p - 1#8).toNat = p.toNat - 1 := by bv_omega
    omega

/-- A text that fits the buffer is delivered only when it is within the text bound. -/
theorem textReport_shaped {mk : List Byte → Event} {payload : List Byte} (hnamed : (mk payload).isUnrecognized = false)
    (hfits : payload.length < Config.textBound → (mk payload).fits = true) :
    (textReport Config.textBound mk payload).Shaped := by
  rcases textReport_cases Config.textBound mk payload with ⟨-, hr⟩ | ⟨hlt, hr⟩ <;> rw [hr]
  · exact outOfRange_shaped
  · exact oneEvent_shaped hnamed (hfits hlt)

/-- A byte less 10 is a speed in -10..245 (10_state R51). -/
theorem motionSpeed_fits (p : Byte) : (Event.motionSpeed (asSpeed p)).fits = true := by
  simp only [Event.fits, asSpeed, Bool.and_eq_true]
  exact ⟨decide_eq_true (by omega), decide_eq_true (by omega)⟩

theorem packedReport_shaped (payload : List Byte) : (packedReport payload).Shaped := by
  rcases packedReport_cases payload with ⟨-, hr⟩ | ⟨_, _, _, _, p4, _, -, hr⟩ <;> rw [hr]
  · exact outOfRange_shaped
  · exact ⟨.inr (.inl ⟨rfl, by simp [Event.isUnrecognized], rfl⟩), by simpa using ⟨rfl, rfl, rfl, rfl, motionSpeed_fits p4⟩⟩

/-- Every dispatched frame finishes, in every state, with a report of one of the four shapes. -/
theorem exec_shaped {i : Instr} (hin : i.isInbound = true) (hwf : i.wellFormed = true) :
    ∃ r : Report, (∀ s, exec i s = .next (finishFrame r s)) ∧ r.Shaped := by
  cases i
  case rx0101Heartbeat => exact ⟨_, fun _ => rfl, oneEvent_shaped rfl rfl⟩
  case rx01XXUnknown | rx02XXUnknown | rx05XXUnknown | rx08XXUnknown | rx80XXUnknown | rxXXXXUnknown =>
    exact ⟨_, fun _ => rfl, unknownKey_shaped _ _⟩
  case rx02A1ProductModel | rx02A2ProductId | rx02A3HardwareModel | rx02A4FirmwareVersion =>
    have hfits := of_decide_eq_true hwf
    exact ⟨_, fun _ => rfl, textReport_shaped rfl fun hlt => by simp [Event.fits, hfits, hlt]⟩
  case rx0587SceneMode => exact ⟨_, fun _ => rfl, withByte_shaped sceneIndex_shaped⟩
  case rx0801PackedFields => exact ⟨_, fun _ => rfl, packedReport_shaped _⟩
  case rx0885MotionSpeed => exact ⟨_, fun _ => rfl, withByte_shaped fun p => oneEvent_shaped rfl (motionSpeed_fits p)⟩
  case rx0800OutputSwitch | rx0880OutputSwitch | rx0881StaticValue | rx0882DetectionDistance | rx0883MotionValue |
      rx0884MotionDistance | rx0807MovementSigns | rx0887MovementSigns | rx8003MovementSigns | rx8083MovementSigns =>
    exact ⟨_, fun _ => rfl, withByte_shaped fun _ => oneEvent_shaped rfl rfl⟩
  case rx0806KeepAway | rx0886KeepAway | rx800BKeepAway | rx808BKeepAway | rx8001HumanPresence | rx8081HumanPresence |
      rx8002MotionStatus | rx8082MotionStatus =>
    exact ⟨_, fun _ => rfl, withByte_shaped fun _ => lookup_shaped (fun _ => rfl) fun _ => rfl⟩
  case txHeartbeat | txQueryOutputSwitch | txQueryProductMode | txQueryProductId | txQueryHardwareModel |
      txQueryFirmwareVersion | txQueryHumanStatus | txQueryKeepAway | txSetOutputSwitch | txSetSceneMode =>
    exact absurd hin (by simp [Instr.isInbound, Instr.parts])
  all_goals exact ⟨_, fun _ => rfl, noEvent_shaped rfl⟩

/-- Settles O41: the report that a frame finishes with has one of the shapes. -/
theorem dispatchResultsHaveFourShapes : Obligations.DispatchResultsHaveFourShapes := by
  intro i s t hin hwf hexec
  obtain ⟨r, hr, hshape⟩ := exec_shaped hin hwf
  obtain rfl : finishFrame r s = t := by simpa [hr] using hexec
  exact hshape

/-- A finished frame leaves every register at its reset value (40_framer R152). -/
theorem cleared_finishFrame (r : Report) (s : State) : Cleared (finishFrame r s) := cleared_clear _

/-- Settles O40: a frame finishes with a report that does not depend on the state. -/
theorem inboundInstructionFrame : Obligations.InboundInstructionFrame := by
  intro i s s' hin
  obtain ⟨r, hr⟩ := exec_inbound i hin
  exact ⟨_, _, hr s, hr s', rfl, rfl, cleared_finishFrame r s, rfl, rfl, rfl⟩

/-! ### Keys that read payload bytes -/

theorem lookup_of_entry {α : Type} {table : List α} {p : Byte} {v : α} (mk : α → Event) (h : table[p.toNat]? = some v) :
    lookup table mk p = oneEvent (mk v) := by
  simp only [lookup, h]

theorem sceneIndex_of_inside {count p : Byte} (h : 1 ≤ p.toNat ∧ p.toNat ≤ count.toNat) :
    sceneIndex count p = oneEvent (.sceneMode (BitVec.ofNat 8 (p.toNat - 1))) := by
  have hindex : p - 1#8 = BitVec.ofNat 8 (p.toNat - 1) := by bv_omega
  rw [← hindex]
  exact if_pos h

theorem asBool_of_ne {p : Byte} (h : p ≠ 0x00#8) : asBool p = true := bne_iff_ne.2 h

/-- Settles O30: the scene byte is inside 1..SCENE_COUNT or outside. -/
theorem sceneModeKey : Obligations.SceneModeKey := by
  intro s p more
  refine ⟨?_, answers_of_report rfl (KeyRoundTrip.rx0587SceneMode []) rfl rfl⟩
  by_cases h : 1 ≤ p.toNat ∧ p.toNat ≤ Config.sceneCount.toNat
  · rw [if_pos h, if_pos h]
    exact answers_of_report rfl (KeyRoundTrip.rx0587SceneMode _) rfl (sceneIndex_of_inside h)
  · rw [if_neg h, if_neg h]
    exact answers_of_report rfl (KeyRoundTrip.rx0587SceneMode _) rfl (sceneIndex_of_outside (by omega))

/-- Settles O31: the first byte is 0x00 or not. -/
theorem outputSwitchKeys : Obligations.OutputSwitchKeys := by
  intro s p cmd more payload
  refine ⟨fun hp => ?_, fun hp => ?_, answers_of_report rfl (KeyRoundTrip.rx0800OutputSwitch []) rfl rfl,
    answers_of_report rfl (KeyRoundTrip.rx0880OutputSwitch []) rfl rfl,
    answers_of_report rfl (KeyRoundTrip.rx08XXUnknown cmd payload) rfl rfl⟩
  · have hreport : oneEvent (.outputSwitch (asBool p)) = ⟨[.outputSwitch true], .none⟩ := by rw [asBool_of_ne hp]; rfl
    exact ⟨answers_of_report rfl (KeyRoundTrip.rx0800OutputSwitch _) rfl hreport,
      answers_of_report rfl (KeyRoundTrip.rx0880OutputSwitch _) rfl hreport⟩
  · subst hp
    exact ⟨answers_of_report rfl (KeyRoundTrip.rx0800OutputSwitch _) rfl rfl,
      answers_of_report rfl (KeyRoundTrip.rx0880OutputSwitch _) rfl rfl⟩

theorem packedReport_of_lt {payload : List Byte} (h : payload.length < 5) : packedReport payload = outOfRange := by
  rcases packedReport_cases payload with ⟨-, hr⟩ | ⟨_, _, _, _, _, _, rfl, -⟩
  · exact hr
  · simp at h
    omega

/-- Settles O32: five bytes are there, or byte 4 is missing. -/
theorem packedFieldsKey : Obligations.PackedFieldsKey := fun _ _ _ _ _ _ _ _ =>
  ⟨answers_of_report rfl (KeyRoundTrip.rx0801PackedFields _) rfl rfl,
    fun hshort => answers_of_report rfl (KeyRoundTrip.rx0801PackedFields _) rfl (packedReport_of_lt hshort)⟩

/-- Settles O33: no test is made of the first byte. -/
theorem singleFieldKeys : Obligations.SingleFieldKeys := fun _ _ _ =>
  ⟨answers_of_report rfl (KeyRoundTrip.rx0881StaticValue _) rfl rfl,
    answers_of_report rfl (KeyRoundTrip.rx0882DetectionDistance _) rfl rfl,
    answers_of_report rfl (KeyRoundTrip.rx0883MotionValue _) rfl rfl,
    answers_of_report rfl (KeyRoundTrip.rx0884MotionDistance _) rfl rfl,
    answers_of_report rfl (KeyRoundTrip.rx0885MotionSpeed _) rfl rfl,
    answers_of_report rfl (KeyRoundTrip.rx0881StaticValue []) rfl rfl,
    answers_of_report rfl (KeyRoundTrip.rx0882DetectionDistance []) rfl rfl,
    answers_of_report rfl (KeyRoundTrip.rx0883MotionValue []) rfl rfl,
    answers_of_report rfl (KeyRoundTrip.rx0884MotionDistance []) rfl rfl,
    answers_of_report rfl (KeyRoundTrip.rx0885MotionSpeed []) rfl rfl⟩

/-- Settles O34: no test is made of the first byte. -/
theorem movementSignsKeys : Obligations.MovementSignsKeys := fun _ _ _ =>
  ⟨answers_of_report rfl (KeyRoundTrip.rx0807MovementSigns _) rfl rfl,
    answers_of_report rfl (KeyRoundTrip.rx0887MovementSigns _) rfl rfl,
    answers_of_report rfl (KeyRoundTrip.rx8003MovementSigns _) rfl rfl,
    answers_of_report rfl (KeyRoundTrip.rx8083MovementSigns _) rfl rfl,
    answers_of_report rfl (KeyRoundTrip.rx0807MovementSigns []) rfl rfl,
    answers_of_report rfl (KeyRoundTrip.rx0887MovementSigns []) rfl rfl,
    answers_of_report rfl (KeyRoundTrip.rx8003MovementSigns []) rfl rfl,
    answers_of_report rfl (KeyRoundTrip.rx8083MovementSigns []) rfl rfl⟩

/-- Settles O35: each listed pair is an entry of its table at the index of the byte. -/
theorem tableLookupKeys : Obligations.TableLookupKeys := by
  intro s more
  refine ⟨fun x hx => ?_, fun x hx => ?_, fun x hx => ?_,
    answers_of_report rfl (KeyRoundTrip.rx0806KeepAway []) rfl rfl,
    answers_of_report rfl (KeyRoundTrip.rx0886KeepAway []) rfl rfl,
    answers_of_report rfl (KeyRoundTrip.rx800BKeepAway []) rfl rfl,
    answers_of_report rfl (KeyRoundTrip.rx808BKeepAway []) rfl rfl,
    answers_of_report rfl (KeyRoundTrip.rx8002MotionStatus []) rfl rfl,
    answers_of_report rfl (KeyRoundTrip.rx8082MotionStatus []) rfl rfl,
    answers_of_report rfl (KeyRoundTrip.rx8001HumanPresence []) rfl rfl,
    answers_of_report rfl (KeyRoundTrip.rx8081HumanPresence []) rfl rfl⟩
  · have hentry : keepAwayTable[x.1.toNat]? = some x.2 := by revert x; simp [keepAwayTable]
    have hreport := lookup_of_entry .keepAwayState hentry
    exact ⟨answers_of_report rfl (KeyRoundTrip.rx0806KeepAway _) rfl hreport,
      answers_of_report rfl (KeyRoundTrip.rx0886KeepAway _) rfl hreport,
      answers_of_report rfl (KeyRoundTrip.rx800BKeepAway _) rfl hreport,
      answers_of_report rfl (KeyRoundTrip.rx808BKeepAway _) rfl hreport⟩
  · have hentry : motionTable[x.1.toNat]? = some x.2 := by revert x; simp [motionTable]
    have hreport := lookup_of_entry .motionStatus hentry
    exact ⟨answers_of_report rfl (KeyRoundTrip.rx8002MotionStatus _) rfl hreport,
      answers_of_report rfl (KeyRoundTrip.rx8082MotionStatus _) rfl hreport⟩
  · have hentry : presenceTable[x.1.toNat]? = some x.2 := by revert x; simp [presenceTable]
    have hreport := lookup_of_entry .humanPresence hentry
    exact ⟨answers_of_report rfl (KeyRoundTrip.rx8001HumanPresence _) rfl hreport,
      answers_of_report rfl (KeyRoundTrip.rx8081HumanPresence _) rfl hreport⟩

end Sys2Proof.Machine
end

section
/-! The requests that read their argument, and what every request leaves unchanged (45_encoder R309 to R312). -/

namespace Sys2Proof.Machine

open Sys2Proof.Claims Sys2Proof.Laws

/-- Bit 0 of a byte is set exactly if the byte is odd. -/
theorem getLsbD_zero (b : Byte) : b.getLsbD 0 = decide (b.toNat % 2 = 1) := Nat.testBit_zero b.toNat

/-- Settles O43: the payload byte is chosen by bit 0 of the argument. -/
theorem setOutputSwitchReadsBitZero : Obligations.SetOutputSwitchReadsBitZero := by
  intro s arg
  have hkind : HasKind (.txSetOutputSwitch arg) 8 := hasKind_of_parts rfl rfl (KeyRoundTrip.txSetOutputSwitch arg)
  constructor
  · intro hodd
    have hbyte : (if arg.getLsbD 0 then 0x01#8 else 0x00#8) = 0x01#8 := by rw [getLsbD_zero, hodd]; rfl
    exact sends_of_transmit hkind rfl (by rw [hbyte]; rfl)
  · intro heven
    have hbyte : (if arg.getLsbD 0 then 0x01#8 else 0x00#8) = 0x00#8 := by rw [getLsbD_zero, heven]; rfl
    exact sends_of_transmit hkind rfl (by rw [hbyte]; rfl)

/-- An index outside the list reads as the reserved code 0x00: neither is sent. -/
theorem sceneCode_eq_ite (codes : List Byte) (index : Byte) :
    sceneCode codes index =
      if codes.getD index.toNat 0x00#8 = 0x00#8 then none else some (codes.getD index.toNat 0x00#8) := by
  rw [List.getD_eq_getElem?_getD]
  unfold sceneCode
  split <;> simp_all

/-- The template of a scene code, its sum gathered: the six bytes before the code add up to 0xB9. -/
theorem template_scene (code : Byte) : template 0x05#8 0x07#8 code =
    [0x53#8, 0x59#8, 0x05#8, 0x07#8, 0x00#8, 0x01#8, code, BitVec.ofNat 8 (0xB9 + code.toNat), 0x54#8, 0x43#8] := by
  simp [template, exactSum, ← Nat.add_assoc]

/-- Settles O44: the code at the index is reserved, or it is sent in the template. -/
theorem setSceneModeSendsTheCode : Obligations.SetSceneModeSendsTheCode := by
  intro s arg code hcode
  refine ⟨hasKind_of_parts rfl rfl (KeyRoundTrip.txSetSceneMode arg), ?_⟩
  have hscene := sceneCode_eq_ite Config.sceneCodes arg
  rw [← hcode] at hscene
  by_cases hzero : code = 0x00#8
  · rw [if_pos hzero] at hscene ⊢
    simp only [exec, execTxSetSceneMode, hscene]
    rfl
  · rw [if_neg hzero] at hscene ⊢
    simp only [exec, execTxSetSceneMode, hscene, sendFrame, outboundFrame_eq_template, template_scene]

theorem sameRegisters_sendFrame (c m v : Byte) (s : State) : SameRegisters s (sendFrame c m v s) :=
  ⟨rfl, rfl, rfl, rfl, rfl, rfl, fun _ => rfl, rfl⟩

theorem sameRegisters_noFrame (s : State) : SameRegisters s (noFrame s) := ⟨rfl, rfl, rfl, rfl, rfl, rfl, fun _ => rfl, rfl⟩

/-- Settles O46: a request sends one frame, the same in every state, or none. -/
theorem requestInstructionFrame : Obligations.RequestInstructionFrame := by
  intro i s s' hreq
  rcases exec_request i hreq with ⟨c, m, v, hsend⟩ | hnone
  · exact ⟨_, _, hsend s, hsend s', sameRegisters_sendFrame c m v s, rfl, rfl, rfl, rfl, rfl, rfl⟩
  · exact ⟨_, _, hnone s, hnone s', sameRegisters_noFrame s, rfl, rfl, rfl, rfl, rfl, rfl⟩

end Sys2Proof.Machine
end

section
/-! One step of the whole block: the RX agent and the TX agent share no state (70_reset_and_hazards R370, R371), so a step is
the RX part, unaffected by the TX ports and by the samples to come, and then the TX part, unaffected by the RX registers. -/

namespace Sys2Proof.Machine

/-! ### The model's own stop -/

/-- A payload longer than the buffer stops the model (log 5). -/
theorem complete_of_gt {s : State} (h : bufferSize < s.len.toNat) : complete s = .fault .noSuchBufferByte := by
  unfold complete
  split
  · rfl
  · next payload hpayload =>
    change (if s.len.toNat ≤ bufferSize then _ else _) = _ at hpayload
    rw [if_neg (Nat.not_le.2 h)] at hpayload
    cases hpayload

/-- Without its index in the buffer a payload byte stops the model (log 5). -/
theorem acceptPayload_of_ge {s : State} (b : Byte) (h : bufferSize ≤ s.cnt.toNat) :
    acceptPayload b s = .fault .noSuchBufferByte := by
  simp only [acceptPayload, Memory.write?, if_neg (Nat.not_lt.2 h)]

/-! ### What the RX agent neither reads nor writes -/

/-- The state with other contents of the fields outside the RX agent: the TX ports and the samples to come. -/
def withOuter (v : Bool) (f : List Byte) (xs : List PortSample) (s : State) : State :=
  { s with txValid := v, txFrame := f, inputs := xs }

/-- The answer with its next state changed; a stop stays as it is. -/
def mapNext (g : State → State) : StepResult → StepResult
  | .next t => .next (g t)
  | .fault r => .fault r
  | .refused r => .refused r

@[simp] theorem mapNext_next (g : State → State) (t : State) : mapNext g (.next t) = .next (g t) := rfl

section
variable (v : Bool) (f : List Byte) (xs : List PortSample) (s : State)

@[simp] theorem finishFrame_withOuter (r : Report) :
    finishFrame r (withOuter v f xs s) = withOuter v f xs (finishFrame r s) := rfl

@[simp] theorem quiet_withOuter : quiet (withOuter v f xs s) = withOuter v f xs (quiet s) := rfl

/-- A test of the byte between two outcomes that both leave the outer fields alone. -/
theorem ite_withOuter {c : Prop} [Decidable c] {a b a' b' : State} (ha : a = withOuter v f xs a')
    (hb : b = withOuter v f xs b') : (if c then a else b) = withOuter v f xs (if c then a' else b') := by
  split
  · exact ha
  · exact hb

theorem hunt_withOuter (b : Byte) : hunt b (withOuter v f xs s) = withOuter v f xs (hunt b s) := ite_withOuter _ _ _ rfl rfl

theorem acceptHeader2_withOuter (b : Byte) :
    acceptHeader2 b (withOuter v f xs s) = withOuter v f xs (acceptHeader2 b s) := ite_withOuter _ _ _ rfl rfl

theorem acceptLenHi_withOuter (b : Byte) :
    acceptLenHi b (withOuter v f xs s) = withOuter v f xs (acceptLenHi b s) := ite_withOuter _ _ _ rfl rfl

theorem acceptTail1_withOuter (b : Byte) :
    acceptTail1 b (withOuter v f xs s) = withOuter v f xs (acceptTail1 b s) := ite_withOuter _ _ _ rfl rfl

theorem acceptLenLo_withOuter (b : Byte) :
    acceptLenLo b (withOuter v f xs s) = withOuter v f xs (acceptLenLo b s) :=
  ite_withOuter _ _ _ rfl (ite_withOuter _ _ _ rfl rfl)

theorem acceptPayload_withOuter (b : Byte) :
    acceptPayload b (withOuter v f xs s) = mapNext (withOuter v f xs) (acceptPayload b s) := by
  simp only [acceptPayload, withOuter]
  split <;> rfl

theorem complete_withOuter : complete (withOuter v f xs s) = mapNext (withOuter v f xs) (complete s) := by
  by_cases hlen : s.len.toNat ≤ bufferSize
  · rw [complete_of_le hlen, complete_of_le (s := withOuter v f xs s) hlen]
    change (if validFrame (rawFrame s (payloadOf s)) then exec (decodeKey s.ctrl s.cmd (payloadOf s)) (withOuter v f xs s)
      else _) = _
    split
    · obtain ⟨r, hr⟩ := exec_inbound _ (decodeKey_isInbound s.ctrl s.cmd (payloadOf s))
      simp only [hr, mapNext_next, finishFrame_withOuter]
    · rfl
  · rw [complete_of_gt (Nat.not_le.1 hlen), complete_of_gt (s := withOuter v f xs s) (Nat.not_le.1 hlen)]
    rfl

/-- The RX step neither reads nor writes the TX ports and the samples to come. -/
theorem rxStep_withOuter (b : Byte) : rxStep b (withOuter v f xs s) = mapNext (withOuter v f xs) (rxStep b s) := by
  have hst : (withOuter v f xs s).st = s.st := rfl
  unfold rxStep
  rw [hst]
  cases s.st with
  | idle | readCmd | unused11 | unused12 | unused13 | unused14 | unused15 =>
    exact congrArg _ (hunt_withOuter v f xs (quiet s) b)
  | sawH1 => exact congrArg _ (acceptHeader2_withOuter v f xs (quiet s) b)
  | readLenHi => exact congrArg _ (acceptLenHi_withOuter v f xs (quiet s) b)
  | sawT1 => exact congrArg _ (acceptTail1_withOuter v f xs (quiet s) b)
  | afterH2 | readCtrl | readCrc => rfl
  | readLenLo => exact congrArg _ (acceptLenLo_withOuter v f xs (quiet s) b)
  | readPayload => exact acceptPayload_withOuter v f xs (quiet s) b
  | expectT2 =>
    simp only [acceptTail2, quiet_withOuter]
    split
    · exact complete_withOuter v f xs (quiet s)
    · rfl

theorem rxPart_withOuter (p : PortSample) : rxPart p (withOuter v f xs s) = mapNext (withOuter v f xs) (rxPart p s) := by
  unfold rxPart
  split
  · rfl
  · split
    · exact rxStep_withOuter v f xs s p.rxByte
    · rfl

theorem cleared_withOuter (h : Cleared s) : Cleared (withOuter v f xs s) :=
  ⟨h.st, h.ctrl, h.cmd, h.len, h.rem, h.cnt, h.buf, h.crc⟩

end

/-- What the RX part answers has the outer fields of the state before it. -/
theorem rxPart_eq_withOuter {p : PortSample} {s u : State} (h : rxPart p s = .next u) :
    u = withOuter s.txValid s.txFrame s.inputs u := by
  have hcommute := rxPart_withOuter s.txValid s.txFrame s.inputs s p
  change rxPart p s = _ at hcommute
  rw [h] at hcommute
  exact Host.Outcome.next.inj hcommute

/-- The RX part starts with quiet outputs, whatever the sample (40_framer R130, R160). -/
theorem rxPart_quiet (p : PortSample) (s : State) : rxPart p (quiet s) = rxPart p s := by
  unfold rxPart
  split
  · rfl
  · split <;> rfl

/-! ### What the TX agent neither reads nor writes -/

/-- The TX part overwrites its ports without reading them. -/
theorem txPart_withOuter (p : PortSample) (v : Bool) (f : List Byte) (s : State) :
    txPart p (withOuter v f s.inputs s) = txPart p s := by
  rcases txPart_eq p with ⟨c, m, w, htx⟩ | htx <;> simp only [htx] <;> rfl

/-- The TX part reads the request of the sample and nothing else of it. -/
theorem txPart_congr {p q : PortSample} (hvalid : p.txReqValid = q.txReqValid) (hkind : p.txReqKind = q.txReqKind)
    (harg : p.txReqArg = q.txReqArg) (s : State) : txPart p s = txPart q s := by
  simp only [txPart, hvalid, hkind, harg]

/-- The RX part reads the reset and the byte of the sample and nothing else of it. -/
theorem rxPart_congr {p q : PortSample} (hrst : p.rst = q.rst) (hvalid : p.rxValid = q.rxValid)
    (hbyte : p.rxByte = q.rxByte) (s : State) : rxPart p s = rxPart q s := by
  simp only [rxPart, hrst, hvalid, hbyte]

/-- The TX part leaves the same ports from any two states. -/
theorem txPart_ports {p : PortSample} {s s' t t' : State} (h : txPart p s = .next t) (h' : txPart p s' = .next t') :
    t.txValid = t'.txValid ∧ t.txFrame = t'.txFrame := by
  rcases txPart_eq p with ⟨c, m, w, htx⟩ | htx <;> rw [htx] at h h' <;> cases h <;> cases h' <;> exact ⟨rfl, rfl⟩

/-- What the TX part answers is the state before it, but for the TX ports. -/
theorem txPart_eq_withOuter {p : PortSample} {s t : State} (h : txPart p s = .next t) :
    t = withOuter t.txValid t.txFrame s.inputs s := by
  rcases txPart_eq p with ⟨c, m, w, htx⟩ | htx <;> rw [htx] at h <;> cases h <;> rfl

theorem txPart_of_no_request {p : PortSample} (h : p.txReqValid = false) (s : State) : txPart p s = .next (noFrame s) := by
  simp [txPart, h, suppress]

/-! ### The step on a given sample -/

theorem step_cons {s : State} {p : PortSample} {rest : List PortSample} (h : s.inputs = p :: rest) :
    step s = portStep p { s with inputs := rest } := by
  simp only [step, nextSample, dropSample, h]
  rfl

theorem portStep_of_rxPart {p : PortSample} {s u : State} (h : rxPart p s = .next u) : portStep p s = txPart p u := by
  simp only [portStep, h]

theorem portStep_next {p : PortSample} {s t : State} (h : portStep p s = .next t) :
    ∃ u, rxPart p s = .next u ∧ txPart p u = .next t := by
  unfold portStep at h
  split at h
  · next u hu => exact ⟨u, hu, h⟩
  · cases h
  · cases h

theorem rxPart_of_byte {p : PortSample} (hrst : p.rst = false) (hvalid : p.rxValid = true) (s : State) :
    rxPart p s = rxStep p.rxByte s := by
  simp [rxPart, hrst, hvalid]

theorem rxPart_of_reset {p : PortSample} (hrst : p.rst = true) (s : State) : rxPart p s = .next (resetRx s) := by
  simp [rxPart, hrst]

/-- A step with a request and no byte is the request, run with quiet RX outputs. -/
theorem step_of_request {s : State} {p : PortSample} {rest : List PortSample} (hin : s.inputs = p :: rest)
    (hrst : p.rst = false) (hvalid : p.rxValid = false) (hreq : p.txReqValid = true) :
    step s = runRequest p.txReqKind p.txReqArg { s with inputs := rest, ev := [], diag := .none } := by
  rw [step_cons hin, portStep_of_rxPart (rxPart_byteless _ hrst hvalid), txPart, if_pos hreq]
  rfl

/-! ### The statements -/

theorem portStep_quiet (p : PortSample) (s : State) : portStep p (quiet s) = portStep p s := by
  simp only [portStep, rxPart_quiet]

/-- A step does not read the TX ports that the step before it left. -/
theorem portStep_withOuter (p : PortSample) (v : Bool) (f : List Byte) (s : State) :
    portStep p (withOuter v f s.inputs s) = portStep p s := by
  unfold portStep
  rw [rxPart_withOuter]
  cases hrx : rxPart p s with
  | next u =>
    have hinputs : u.inputs = s.inputs := by rw [rxPart_eq_withOuter hrx]; rfl
    simp only [mapNext, ← hinputs, txPart_withOuter]
  | fault r => rfl
  | refused r => rfl

/-- Settles O9: the RX part starts with quiet outputs, and the TX part overwrites its ports. -/
theorem outputsLastOneStep : Obligations.OutputsLastOneStep := by
  intro s ev d v f
  calc step { s with ev := ev, diag := d, txValid := v, txFrame := f }
    _ = portStep (nextSample s) (quiet (withOuter v f s.inputs.tail s)) := (portStep_quiet _ _).symm
    _ = portStep (nextSample s) (quiet (dropSample s)) := portStep_withOuter _ v f (quiet (dropSample s))
    _ = step s := portStep_quiet _ _

/-- Settles O8: the RX part reads the reset and the byte, and the TX part the request. -/
theorem rxAndTxDoNotInteract : Obligations.RxAndTxDoNotInteract := by
  constructor
  · intro s t p q rest hrst hvalid hbyte hstep
    rw [step_cons rfl] at hstep ⊢
    obtain ⟨u, hrx, htx⟩ := portStep_next hstep
    obtain ⟨w, hw⟩ := txPart_next q u
    refine ⟨w, ?_, ?_⟩
    · rw [portStep_of_rxPart ((rxPart_congr hrst hvalid hbyte _).symm.trans hrx), hw]
    · rw [txPart_eq_withOuter hw, txPart_eq_withOuter htx]
      rfl
  · intro s s' t t' p q rest rest' hvalid hkind harg hstep hstep'
    rw [step_cons rfl] at hstep hstep'
    obtain ⟨u, -, htx⟩ := portStep_next hstep
    obtain ⟨u', -, htx'⟩ := portStep_next hstep'
    exact txPart_ports htx ((txPart_congr hvalid hkind harg _).trans htx')

/-- Settles O2: reset is Clear, and the TX part leaves the registers alone. -/
theorem resetClearsRxAndDropsTheByte : Obligations.ResetClearsRxAndDropsTheByte := by
  refine ⟨⟨cleared_clear State.reset, rfl, rfl⟩, fun s p rest hin hrst => ?_⟩
  obtain ⟨t, htx⟩ := txPart_next p (resetRx { s with inputs := rest })
  refine ⟨t, by rw [step_cons hin, portStep_of_rxPart (rxPart_of_reset hrst _), htx], ?_⟩
  rw [txPart_eq_withOuter htx]
  exact ⟨cleared_withOuter _ _ _ _ (cleared_clear _), rfl, rfl, rfl⟩

/-- Settles O4: without a request the TX part only empties its ports. -/
theorem byteStepIsTheRxStep : Obligations.ByteStepIsTheRxStep := by
  intro s t p rest hin hrst hvalid hreq hrx
  rw [step_cons hin, portStep_of_rxPart ((rxPart_of_byte hrst hvalid _).trans hrx)]
  exact txPart_of_no_request hreq t

/-- Settles O6: the TX part runs the instruction that the request decodes to. -/
theorem stepRunsTheDecodedRequest : Obligations.StepRunsTheDecodedRequest := by
  intro s p rest i hin hrst hvalid hreq hdecode
  rw [step_of_request hin hrst hvalid hreq, runRequest, hdecode]

theorem decodeRequest_of_reserved {kind : BitVec 4} (arg : Byte) (h : 10 ≤ kind.toNat) :
    decodeRequest kind arg = .error (.reservedKind kind) := by
  have hne (k : BitVec 4) (hk : k.toNat < 10) : kind ≠ k := by
    rintro rfl
    omega
  simp [decodeRequest, hne]

/-- Settles O7: a reserved kind is refused, so the TX part only empties its ports. -/
theorem reservedKindsSendNothing : Obligations.ReservedKindsSendNothing := by
  intro s p rest hin hrst hvalid hreq hkind
  have hdecode := decodeRequest_of_reserved p.txReqArg hkind
  refine ⟨hdecode, ?_⟩
  rw [step_of_request hin hrst hvalid hreq, runRequest, hdecode]
  rfl

end Sys2Proof.Machine
end

section
/-! The Framer's transition table as an inversion (40_framer R130 to R149): every row that an RX step can take, the rows that
abort, and the completion of a frame. -/

namespace Sys2Proof.Machine

open Sys2Proof.Claims

/-! ### The other outcome of each row -/

theorem hunt_of_ne {b : Byte} (s : State) (h : b ≠ header1) : hunt b s = { s with st := .idle } := if_neg h

theorem acceptHeader2_of_ne {b : Byte} (s : State) (h : b ≠ header2) : acceptHeader2 b s = abort .framingDesync s := if_neg h

theorem acceptLenHi_of_lt {b : Byte} (s : State) (h : Config.lenHiMax < b.toNat) :
    acceptLenHi b s = abort .framingDesync s := if_neg (Nat.not_le.2 h)

theorem acceptTail1_of_ne {b : Byte} (s : State) (h : b ≠ tail1) : acceptTail1 b s = abort .framingDesync s := if_neg h

theorem acceptTail2_of_ne {b : Byte} (s : State) (h : b ≠ tail2) : acceptTail2 b s = .next (abort .framingDesync s) := if_neg h

theorem acceptLenLo_of_gt {b : Byte} {s : State} (h : Config.maxPayload < s.len.toNat + b.toNat) :
    acceptLenLo b s = abort .payloadOutOfRange s := if_pos h

theorem acceptLenLo_of_zero {b : Byte} {s : State} (h : s.len.toNat + b.toNat = 0) :
    acceptLenLo b s = { s with len := 0#16, cnt := 0#6, st := .readCrc } := by
  simp only [acceptLenLo, h]
  rfl

theorem rxStep_tail2_eq_complete {s : State} (hst : s.st = .expectT2) : rxStep 0x43#8 s = complete (quiet s) :=
  (rxStep_expectT2 _ hst).trans (if_pos rfl)

/-- The last byte of a frame validates the held bytes, and dispatches the key in the registers when they are valid. -/
theorem rxStep_tail2 {s : State} (hst : s.st = .expectT2) (hlen : s.len.toNat ≤ bufferSize) :
    rxStep 0x43#8 s =
      if validFrame (heldFrame s) then exec (decodeKey s.ctrl s.cmd (payloadOf s)) (quiet s)
      else .next (finishFrame ⟨[], .checksumMismatch⟩ (quiet s)) := by
  rw [rxStep_tail2_eq_complete hst, complete_of_le (s := quiet s) hlen, rawFrame_payloadOf]
  rfl

/-! ### Every row -/

/-- A byte that is not the expected one, by the Framer state (60_exceptions R331). -/
def DesyncCause (b : Byte) (s : State) : Prop :=
  (s.st = .sawH1 ∧ b ≠ 0x59#8) ∨ (s.st = .readLenHi ∧ 4 < b.toNat) ∨ (s.st = .sawT1 ∧ b ≠ 0x54#8) ∨
    (s.st = .expectT2 ∧ b ≠ 0x43#8)

theorem rxStep_of_desyncCause {b : Byte} {s : State} (h : DesyncCause b s) :
    rxStep b s = .next (abort .framingDesync (quiet s)) := by
  rcases h with ⟨hst, hb⟩ | ⟨hst, hb⟩ | ⟨hst, hb⟩ | ⟨hst, hb⟩
  · rw [rxStep_sawH1 b hst, acceptHeader2_of_ne _ hb]
  · rw [rxStep_readLenHi b hst, acceptLenHi_of_lt _ hb]
  · rw [rxStep_sawT1 b hst, acceptTail1_of_ne _ hb]
  · rw [rxStep_expectT2 b hst, acceptTail2_of_ne _ hb]

theorem rxStep_of_tooLong {b : Byte} {s : State} (hst : s.st = .readLenLo) (h : 32 < s.len.toNat + b.toNat) :
    rxStep b s = .next (abort .payloadOutOfRange (quiet s)) := by
  rw [rxStep_readLenLo b hst, acceptLenLo_of_gt (s := quiet s) h]

/-- Every row of the transition table, with its next state. -/
inductive RxRow (b : Byte) (s t : State) : Prop
  | hunted (hst : s.st = .idle ∨ s.st.reachable = false) (ht : t = hunt b (quiet s))
  | desynced (hcause : DesyncCause b s) (ht : t = abort .framingDesync (quiet s))
  | header2 (hst : s.st = .sawH1) (ht : t = { quiet s with st := .afterH2 })
  | ctrl (hst : s.st = .afterH2) (ht : t = acceptCtrl b (quiet s))
  | cmd (hst : s.st = .readCtrl) (ht : t = acceptCmd b (quiet s))
  | lenHi (hst : s.st = .readLenHi) (hb : b.toNat ≤ 4)
      (ht : t = { quiet s with len := BitVec.ofNat 16 (b.toNat * 256), st := .readLenLo })
  | tooLong (hst : s.st = .readLenLo) (ht : t = abort .payloadOutOfRange (quiet s))
  | emptyPayload (hst : s.st = .readLenLo) (ht : t = { quiet s with len := 0#16, cnt := 0#6, st := .readCrc })
  | payloadLen (hst : s.st = .readLenLo) (hpos : 1 ≤ s.len.toNat + b.toNat) (hle : s.len.toNat + b.toNat ≤ 32)
      (ht : t = { quiet s with
        len := BitVec.ofNat 16 (s.len.toNat + b.toNat), rem := BitVec.ofNat 16 (s.len.toNat + b.toNat), cnt := 0#6
        st := .readPayload })
  | payloadByte (hst : s.st = .readPayload) (hcnt : s.cnt.toNat < 32)
      (ht : t = { quiet s with
        buf := Memory.write s.buf s.cnt.toNat b, cnt := s.cnt + 1#6, rem := s.rem - 1#16
        st := if s.rem - 1#16 = 0#16 then .readCrc else .readPayload })
  | crc (hst : s.st = .readCrc) (ht : t = acceptCrc b (quiet s))
  | tail1 (hst : s.st = .sawT1) (ht : t = { quiet s with st := .expectT2 })
  | completed (hlast : TakesLastByte b s) (r : Report) (ht : t = finishFrame r (quiet s))

/-- An RX step that answers a next state takes one of the rows. -/
theorem rxStep_row {b : Byte} {s t : State} (h : rxStep b s = .next t) : RxRow b s t := by
  have next_eq {u : State} (hrow : rxStep b s = .next u) : t = u := Host.Outcome.next.inj (h.symm.trans hrow)
  by_cases hcause : DesyncCause b s
  · exact .desynced hcause (next_eq (rxStep_of_desyncCause hcause))
  cases hst : s.st with
  | idle => exact .hunted (.inl hst) (next_eq (rxStep_idle b hst))
  | sawH1 =>
    have hb : b = header2 := by_contra fun hne => hcause (.inl ⟨hst, hne⟩)
    exact .header2 hst (next_eq (by rw [rxStep_sawH1 b hst, hb, acceptHeader2_header2]))
  | afterH2 => exact .ctrl hst (next_eq (rxStep_afterH2 b hst))
  | readCtrl => exact .cmd hst (next_eq (rxStep_readCtrl b hst))
  | readLenHi =>
    have hb : b.toNat ≤ 4 := by_contra fun hgt => hcause (.inr (.inl ⟨hst, Nat.not_le.1 hgt⟩))
    exact .lenHi hst hb (next_eq (by rw [rxStep_readLenHi b hst, acceptLenHi_of_le _ hb]))
  | readLenLo =>
    rcases Nat.lt_or_ge 32 (s.len.toNat + b.toNat) with hgt | hle
    · exact .tooLong hst (next_eq (rxStep_of_tooLong hst hgt))
    · rcases Nat.eq_zero_or_pos (s.len.toNat + b.toNat) with hzero | hpos
      · exact .emptyPayload hst (next_eq (by rw [rxStep_readLenLo b hst, acceptLenLo_of_zero (s := quiet s) hzero]))
      · exact .payloadLen hst hpos hle
          (next_eq (by rw [rxStep_readLenLo b hst, acceptLenLo_of_pos (s := quiet s) hpos hle]; rfl))
  | readPayload =>
    obtain ⟨hcnt, ht⟩ := acceptPayload_next ((rxStep_readPayload b hst).symm.trans h)
    exact .payloadByte hst hcnt ht
  | readCrc => exact .crc hst (next_eq (rxStep_readCrc b hst))
  | sawT1 =>
    have hb : b = tail1 := by_contra fun hne => hcause (.inr (.inr (.inl ⟨hst, hne⟩)))
    exact .tail1 hst (next_eq (by rw [rxStep_sawT1 b hst, hb, acceptTail1_tail1]))
  | expectT2 =>
    have hlast : TakesLastByte b s := ⟨hst, by_contra fun hne => hcause (.inr (.inr (.inr ⟨hst, hne⟩)))⟩
    have hcomplete : rxStep b s = complete (quiet s) := (rxStep_expectT2 b hst).trans (if_pos hlast.2)
    obtain ⟨-, r, ht⟩ := complete_next (hcomplete.symm.trans h)
    exact .completed hlast r ht
  | readCmd | unused11 | unused12 | unused13 | unused14 | unused15 =>
    have hcode : s.st.reachable = false := by rw [hst]; rfl
    exact .hunted (.inr hcode) (next_eq (rxStep_unreachable b hcode))

/-! ### The statements about single rows -/

/-- Settles O11: the hunt writes `st` and nothing else, and does not read it. -/
theorem otherBytesAreHuntedSilently : Obligations.OtherBytesAreHuntedSilently := by
  constructor
  · intro s b hst hb
    rw [rxStep_idle b hst, hunt_of_ne _ hb, ← hst]
    rfl
  · intro s b hcode
    rw [rxStep_unreachable b hcode, rxStep_idle b rfl]
    rfl

/-- Settles O16: the length is exactly zero. -/
theorem emptyPayloadSkipsToTheChecksum : Obligations.EmptyPayloadSkipsToTheChecksum := fun s b hst hzero =>
  (rxStep_readLenLo b hst).trans (congrArg _ (acceptLenLo_of_zero (s := quiet s) hzero))

/-- Settles O19: each of the five rows aborts, and an abort clears the Framer. -/
theorem structuralMismatchAborts : Obligations.StructuralMismatchAborts := by
  intro s b d h
  have habort : rxStep b s = .next (abort d (quiet s)) := by
    rcases h with ⟨hst, hb, rfl⟩ | ⟨hst, hb, rfl⟩ | ⟨hst, hlen, rfl⟩ | ⟨hst, hb, rfl⟩ | ⟨hst, hb, rfl⟩
    · exact rxStep_of_desyncCause (.inl ⟨hst, hb⟩)
    · exact rxStep_of_desyncCause (.inr (.inl ⟨hst, hb⟩))
    · exact rxStep_of_tooLong hst hlen
    · exact rxStep_of_desyncCause (.inr (.inr (.inl ⟨hst, hb⟩)))
    · exact rxStep_of_desyncCause (.inr (.inr (.inr ⟨hst, hb⟩)))
  exact ⟨_, habort, cleared_clear _, rfl, rfl, rfl, rfl, rfl⟩

/-- Settles O21: the checked write and the checked read both refuse the index. -/
theorem absentBufferByteFaults : Obligations.AbsentBufferByteFaults := by
  intro s b
  constructor
  · intro hst hcnt
    rw [rxStep_readPayload b hst, acceptPayload_of_ge (s := quiet s) b hcnt]
  · intro hst hlen
    rw [rxStep_tail2_eq_complete hst, complete_of_gt (s := quiet s) hlen]

/-- A completed frame has a diagnostic of the validator or of the dispatcher. -/
theorem RxOutcome.diag_ne_framingDesync {b : Byte} {s t : State} (h : RxOutcome b s t) (hlast : TakesLastByte b s) :
    t.diag ≠ .framingDesync := by
  cases h with
  | silent hnot => exact absurd hlast hnot
  | aborted hnot => exact absurd hlast hnot
  | mismatched _ _ ht => simp [ht]
  | dispatched _ _ r hkey ht =>
    subst ht
    cases hkey with
    | unnamed _ hr => simp [hr]
    | named _ hr => exact hr.diag_ne (by decide) rfl

/-- Settles O22: only a row with a cause aborts with the code. -/
theorem framingDesyncHasFourCauses : Obligations.FramingDesyncHasFourCauses := by
  intro s t b h
  by_cases hcause : DesyncCause b s
  · obtain rfl : abort .framingDesync (quiet s) = t :=
      Host.Outcome.next.inj ((rxStep_of_desyncCause hcause).symm.trans h)
    exact ⟨iff_of_true rfl hcause, fun _ => rfl⟩
  · have hdiag : t.diag ≠ .framingDesync := by
      cases rxStep_row h with
      | desynced hdesync => exact absurd hdesync hcause
      | completed hlast => exact (rxStep_outcome h).diag_ne_framingDesync hlast
      | hunted _ ht | header2 _ ht | ctrl _ ht | cmd _ ht | lenHi _ _ ht | tooLong _ ht | emptyPayload _ ht
      | payloadLen _ _ _ ht | payloadByte _ _ ht | crc _ ht | tail1 _ ht => simp [ht]
    exact ⟨iff_of_false hdiag hcause, fun hd => absurd hd hdiag⟩

/-- Settles O26: of the four outcomes only the dispatched frame has an event. -/
theorem eventsOnlyAtTheLastByte : Obligations.EventsOnlyAtTheLastByte := by
  intro s t b h hev
  cases rxStep_outcome h with
  | silent _ hnone => exact absurd hnone hev
  | aborted _ d _ ht => exact absurd (congrArg State.ev ht) hev
  | mismatched _ _ ht => exact absurd (congrArg State.ev ht) hev
  | dispatched hlast hsum => exact ⟨hlast.1, hlast.2, hsum⟩

/-- Settles O20: the validator compares `crc` with the sum of the held frame, and the decoder gives the key's instruction. -/
theorem completionValidatesThenDispatches : Obligations.CompletionValidatesThenDispatches := by
  intro s hst hlen
  have hstep := rxStep_tail2 hst hlen
  refine ⟨fun hsum => ?_, fun hsum => ?_⟩
  · rw [if_neg fun hvalid => hsum (validFrame_heldFrame.1 hvalid)] at hstep
    exact ⟨_, hstep, cleared_finishFrame _ _, rfl, rfl⟩
  · rw [if_pos (validFrame_heldFrame.2 hsum)] at hstep
    exact ⟨_, _, rfl, rfl, decodeKey_parts _ _ _, decodeKey_wellFormed _ _ ((payloadOf_length s).trans_le hlen), hstep⟩

/-! ### The held frame and the decoder of whole frames -/

/-- The registers that hold the encoding of a key and a payload hold that key and that payload. -/
theorem heldFrame_eq_encodeFrame {s : State} {ctrl cmd : Byte} {payload : List Byte}
    (h : heldFrame s = encodeFrame ctrl cmd payload) : s.ctrl = ctrl ∧ s.cmd = cmd ∧ payloadOf s = payload := by
  have hlen : (payloadOf s).length = payload.length := by simpa [heldFrame] using congrArg List.length h
  simp only [heldFrame, encodeFrame_eq, coveredBytes, List.cons_append, List.nil_append, List.cons.injEq] at h
  obtain ⟨-, -, hctrl, hcmd, -, -, htail⟩ := h
  exact ⟨hctrl, hcmd, (List.append_inj htail hlen).1⟩

theorem validFrame_encodeFrame (ctrl cmd : Byte) (payload : List Byte) : validFrame (encodeFrame ctrl cmd payload) = true := by
  rw [encodeFrame_eq, validFrame_append_three]

/-- Settles O5: the frame decoder reads the key and the payload that the completion reads. -/
theorem stepRunsTheDecodedFrame : Obligations.StepRunsTheDecodedFrame := by
  intro s p rest i hin hrst hvalid hbyte hst hdecode
  obtain ⟨ctrl, cmd, payload, hfits, rfl, hheld⟩ := decodeFrame_eq_ok.1 hdecode
  rw [List.append_nil] at hheld
  obtain ⟨rfl, rfl, rfl⟩ := heldFrame_eq_encodeFrame hheld
  rw [payloadOf_length] at hfits
  obtain ⟨t, hexec⟩ := exec_next (decodeKey s.ctrl s.cmd (payloadOf s)) { s with inputs := rest, ev := [], diag := .none }
  have hheld' : validFrame (heldFrame s) = true := by rw [hheld, validFrame_encodeFrame]
  have hrx : rxPart p { s with inputs := rest } = .next t := by
    rw [rxPart_of_byte hrst hvalid, hbyte, rxStep_tail2 (s := { s with inputs := rest }) hst hfits]
    exact (if_pos hheld').trans hexec
  have hstep : step s = txPart p t := (step_cons hin).trans (portStep_of_rxPart hrx)
  refine ⟨t, hexec, fun hreq => hstep.trans (txPart_of_no_request hreq t), fun j hreq hj => ?_⟩
  rw [hstep, txPart, if_pos hreq, runRequest, hj]

end Sys2Proof.Machine
end

section
/-! The run invariant (10_state R31 to R42): it holds after reset, every step keeps it, and no step stops where it holds. -/

namespace Sys2Proof.Machine

open Sys2Proof.Claims

/-! ### The register clauses of the invariant -/

/-- The clauses of `RunInvariant` about the RX registers. -/
structure RegistersHold (s : State) : Prop where
  code : s.st.reachable = true
  lenHigh : s.st = .readLenLo → s.len.toNat % 256 = 0 ∧ s.len.toNat ≤ 1024
  payload : s.st = .readPayload →
    1 ≤ s.rem.toNat ∧ s.cnt.toNat + s.rem.toNat = s.len.toNat ∧ s.len.toNat ≤ Config.maxPayload
  filled : s.st = .readCrc ∨ s.st = .sawT1 ∨ s.st = .expectT2 →
    s.cnt.toNat = s.len.toNat ∧ s.len.toNat ≤ Config.maxPayload
  canonical : Memory.wf s.buf = true

/-- The invariant is its register clauses, its clause on the TX port and its clause on the RX outputs. -/
theorem runInvariant_iff {s : State} :
    RunInvariant s ↔
      RegistersHold s ∧ s.txFrame.length = (if s.txValid then 10 else 0) ∧ OutputShape s.ev s.diag :=
  ⟨fun ⟨hcode, hlenHigh, hpayload, hfilled, hcanonical, hframe, houtputs⟩ =>
    ⟨⟨hcode, hlenHigh, hpayload, hfilled, hcanonical⟩, hframe, houtputs⟩,
   fun ⟨⟨hcode, hlenHigh, hpayload, hfilled, hcanonical⟩, hframe, houtputs⟩ =>
    ⟨hcode, hlenHigh, hpayload, hfilled, hcanonical, hframe, houtputs⟩⟩

theorem RunInvariant.registers {s : State} (h : RunInvariant s) : RegistersHold s := (runInvariant_iff.1 h).1

/-- Where `len` carries no meaning, only the code and the buffer are constrained. -/
theorem RegistersHold.of_len_dead {s : State} (hcode : s.st.reachable = true) (hdead : s.st.lenLive = false)
    (hwf : Memory.wf s.buf = true) : RegistersHold s where
  code := hcode
  lenHigh := fun hst => by simp [hst, FramerState.lenLive] at hdead
  payload := fun hst => by simp [hst, FramerState.lenLive] at hdead
  filled := by rintro (hst | hst | hst) <;> simp [hst, FramerState.lenLive] at hdead
  canonical := hwf

/-- In the payload and after it, the counters are constrained. -/
theorem RegistersHold.of_filled {s : State} (hst : s.st = .readCrc ∨ s.st = .sawT1 ∨ s.st = .expectT2)
    (hcnt : s.cnt.toNat = s.len.toNat) (hlen : s.len.toNat ≤ Config.maxPayload) (hwf : Memory.wf s.buf = true) :
    RegistersHold s where
  code := by rcases hst with hst | hst | hst <;> rw [hst] <;> rfl
  lenHigh := by rcases hst with hst | hst | hst <;> simp [hst]
  payload := by rcases hst with hst | hst | hst <;> simp [hst]
  filled := fun _ => ⟨hcnt, hlen⟩
  canonical := hwf

theorem registersHold_clear (s : State) : RegistersHold (clear s) := .of_len_dead rfl rfl rfl

theorem RegistersHold.withOuter {s : State} (h : RegistersHold s) (v : Bool) (f : List Byte) (xs : List PortSample) :
    RegistersHold (withOuter v f xs s) := ⟨h.code, h.lenHigh, h.payload, h.filled, h.canonical⟩

theorem registersHold_quiet {s : State} (h : RegistersHold s) : RegistersHold (quiet s) :=
  ⟨h.code, h.lenHigh, h.payload, h.filled, h.canonical⟩

/-! ### The RX step keeps the register clauses -/

theorem registersHold_hunt {s : State} (b : Byte) (hwf : Memory.wf s.buf = true) : RegistersHold (hunt b s) := by
  unfold hunt
  split <;> exact .of_len_dead rfl rfl hwf

/-- The buffer has the byte that the payload needs next. -/
theorem RegistersHold.cnt_lt {s : State} (h : RegistersHold s) (hst : s.st = .readPayload) : s.cnt.toNat < bufferSize := by
  obtain ⟨hrem, hsum, hlen⟩ := h.payload hst
  exact Nat.lt_of_lt_of_le (by omega) hlen

/-- A payload byte goes to `buf[cnt]`: one more stored, one less to come, and the last one leaves the payload. -/
theorem RegistersHold.payloadByte {s : State} (h : RegistersHold s) (b : Byte) (hst : s.st = .readPayload) :
    RegistersHold { quiet s with
      buf := Memory.write s.buf s.cnt.toNat b, cnt := s.cnt + 1#6, rem := s.rem - 1#16
      st := if s.rem - 1#16 = 0#16 then .readCrc else .readPayload } := by
  obtain ⟨hrem, hsum, hlen⟩ := h.payload hst
  have hlen' : s.len.toNat ≤ 32 := hlen
  have hcnt : (s.cnt + 1#6).toNat = s.cnt.toNat + 1 := by bv_omega
  have hrem' : (s.rem - 1#16).toNat = s.rem.toNat - 1 := by bv_omega
  have hwf : Memory.wf (Memory.write s.buf s.cnt.toNat b) = true :=
    Memory.wf_write h.canonical (h.cnt_lt hst)
  split
  · next hlast =>
    have hone : s.rem.toNat = 1 := by bv_omega
    exact .of_filled (.inl rfl) (show (s.cnt + 1#6).toNat = s.len.toNat by omega) hlen hwf
  · next hmore =>
    have hgt : s.rem.toNat ≠ 1 := fun hone => hmore (by bv_omega)
    exact ⟨rfl, by simp, fun _ => ⟨show 1 ≤ (s.rem - 1#16).toNat by omega,
      show (s.cnt + 1#6).toNat + (s.rem - 1#16).toNat = s.len.toNat by omega, hlen⟩, by simp, hwf⟩

/-- Every row of the transition table keeps the register clauses. -/
theorem RegistersHold.rxRow {b : Byte} {s t : State} (h : RegistersHold s) (hrow : RxRow b s t) : RegistersHold t := by
  cases hrow with
  | hunted _ ht => exact ht ▸ registersHold_hunt b h.canonical
  | desynced _ ht => exact ht ▸ registersHold_clear _
  | tooLong _ ht => exact ht ▸ registersHold_clear _
  | completed _ r ht => exact ht ▸ registersHold_clear _
  | header2 _ ht => exact ht ▸ .of_len_dead rfl rfl h.canonical
  | ctrl _ ht => exact ht ▸ .of_len_dead rfl rfl h.canonical
  | cmd _ ht => exact ht ▸ .of_len_dead rfl rfl h.canonical
  | lenHi _ hb ht =>
    have hlen : (BitVec.ofNat 16 (b.toNat * 256)).toNat = b.toNat * 256 := toNat_ofNat_of_lt (by omega)
    subst ht
    exact ⟨rfl, fun _ => by simp only [hlen]; omega, by simp, by simp, h.canonical⟩
  | emptyPayload _ ht => exact ht ▸ .of_filled (.inl rfl) rfl (Nat.zero_le _) h.canonical
  | payloadLen _ hpos hle ht =>
    have hlen : (BitVec.ofNat 16 (s.len.toNat + b.toNat)).toNat = s.len.toNat + b.toNat := toNat_ofNat_of_lt (by omega)
    subst ht
    exact ⟨rfl, by simp, fun _ => by simpa only [hlen] using ⟨hpos, Nat.zero_add _, hle⟩, by simp, h.canonical⟩
  | payloadByte hst _ ht => exact ht ▸ h.payloadByte b hst
  | crc hst ht =>
    obtain ⟨hcnt, hlen⟩ := h.filled (.inl hst)
    exact ht ▸ .of_filled (.inr (.inl rfl)) hcnt hlen h.canonical
  | tail1 hst ht =>
    obtain ⟨hcnt, hlen⟩ := h.filled (.inr (.inl hst))
    exact ht ▸ .of_filled (.inr (.inr rfl)) hcnt hlen h.canonical

/-! ### The outputs of an RX step -/

theorem outputShape_quiet : OutputShape [] .none := .inr ⟨rfl, .inl rfl⟩

/-- A frame completed in any state reports a mismatch or one of the dispatcher's shapes (R262). -/
theorem complete_outputShape {s t : State} (h : complete s = .next t) : OutputShape t.ev t.diag := by
  obtain ⟨hlen, -⟩ := complete_next h
  rw [complete_of_le hlen] at h
  split at h
  · obtain ⟨r, hexec, hshape⟩ := exec_shaped (decodeKey_isInbound s.ctrl s.cmd (payloadOf s))
      (decodeKey_wellFormed s.ctrl s.cmd ((payloadOf_length s).trans_le hlen))
    obtain rfl := Host.Outcome.next.inj (h.symm.trans (hexec s))
    exact .inl hshape
  · cases h
    exact .inr ⟨rfl, .inr (.inr (.inl rfl))⟩

theorem rxStep_outputShape {b : Byte} {s t : State} (h : rxStep b s = .next t) : OutputShape t.ev t.diag := by
  cases rxStep_row h with
  | completed hlast =>
    obtain ⟨hst, rfl⟩ := hlast
    exact complete_outputShape ((rxStep_tail2_eq_complete hst).symm.trans h)
  | hunted _ ht =>
    subst ht
    unfold hunt
    split <;> exact outputShape_quiet
  | desynced _ ht => exact ht ▸ .inr ⟨rfl, .inr (.inl rfl)⟩
  | tooLong _ ht => exact ht ▸ .inr ⟨rfl, .inr (.inr (.inr rfl))⟩
  | header2 _ ht | ctrl _ ht | cmd _ ht | lenHi _ _ ht | emptyPayload _ ht | payloadLen _ _ _ ht | payloadByte _ _ ht
  | crc _ ht | tail1 _ ht => exact ht ▸ outputShape_quiet

/-! ### The step -/

/-- The RX part keeps the register clauses and leaves the outputs of some step. -/
theorem rxPart_keeps {p : PortSample} {s u : State} (hs : RegistersHold s) (h : rxPart p s = .next u) :
    RegistersHold u ∧ OutputShape u.ev u.diag := by
  unfold rxPart at h
  split_ifs at h
  · cases h
    exact ⟨registersHold_clear _, outputShape_quiet⟩
  · exact ⟨hs.rxRow (rxStep_row h), rxStep_outputShape h⟩
  · cases h
    exact ⟨registersHold_quiet hs, outputShape_quiet⟩

theorem dropSample_registersHold {s : State} (h : RegistersHold s) : RegistersHold (dropSample s) :=
  h.withOuter s.txValid s.txFrame s.inputs.tail

/-- Settles O55: the RX part keeps the registers and gives the outputs, the TX part gives the frame. -/
theorem everyStepKeepsTheInvariant : Obligations.EveryStepKeepsTheInvariant := by
  intro s t hs hstep
  obtain ⟨u, hrx, htx⟩ := step_next hstep
  obtain ⟨hregisters, houtputs⟩ := rxPart_keeps (dropSample_registersHold hs.registers) hrx
  obtain ⟨-, -, -, -, -, -, -, -, hev, hdiag, -, hframe⟩ := txPart_frame htx
  refine runInvariant_iff.2 ⟨?_, hframe, ?_⟩
  · rw [txPart_eq_withOuter htx]
    exact hregisters.withOuter _ _ _
  · rw [hev, hdiag]
    exact houtputs

/-- Settles O1: reset is cleared, with quiet outputs and an empty TX port. -/
theorem resetSatisfiesInvariant : Obligations.ResetSatisfiesInvariant :=
  runInvariant_iff.2 ⟨registersHold_clear State.reset, rfl, outputShape_quiet⟩

/-! ### Progress -/

/-- Within the invariant the RX step finds every buffer byte that it needs. -/
theorem RegistersHold.rxStep_next {s : State} (h : RegistersHold s) (b : Byte) : ∃ t, rxStep b s = .next t := by
  cases hst : s.st with
  | idle => exact ⟨_, rxStep_idle b hst⟩
  | sawH1 => exact ⟨_, rxStep_sawH1 b hst⟩
  | afterH2 => exact ⟨_, rxStep_afterH2 b hst⟩
  | readCtrl => exact ⟨_, rxStep_readCtrl b hst⟩
  | readLenHi => exact ⟨_, rxStep_readLenHi b hst⟩
  | readLenLo => exact ⟨_, rxStep_readLenLo b hst⟩
  | readPayload =>
    exact ⟨_, (rxStep_readPayload b hst).trans (acceptPayload_of_lt (s := quiet s) b (h.cnt_lt hst))⟩
  | readCrc => exact ⟨_, rxStep_readCrc b hst⟩
  | sawT1 => exact ⟨_, rxStep_sawT1 b hst⟩
  | expectT2 =>
    by_cases hb : b = tail2
    · subst hb
      have hstep := rxStep_tail2 hst (h.filled (.inr (.inr hst))).2
      split at hstep
      · obtain ⟨t, hexec⟩ := exec_next (decodeKey s.ctrl s.cmd (payloadOf s)) (quiet s)
        exact ⟨t, hstep.trans hexec⟩
      · exact ⟨_, hstep⟩
    · exact ⟨_, (rxStep_expectT2 b hst).trans (acceptTail2_of_ne _ hb)⟩
  | readCmd | unused11 | unused12 | unused13 | unused14 | unused15 =>
    exact absurd h.code (by rw [hst]; exact Bool.false_ne_true)

theorem RegistersHold.rxPart_next {s : State} (h : RegistersHold s) (p : PortSample) : ∃ u, rxPart p s = .next u := by
  unfold rxPart
  split_ifs
  · exact ⟨_, rfl⟩
  · exact h.rxStep_next p.rxByte
  · exact ⟨_, rfl⟩

/-- A state of the invariant has a next state, again of the invariant. -/
theorem RunInvariant.step_next {s : State} (h : RunInvariant s) : ∃ t, step s = .next t ∧ RunInvariant t := by
  obtain ⟨u, hrx⟩ := (dropSample_registersHold h.registers).rxPart_next (nextSample s)
  obtain ⟨t, htx⟩ := txPart_next (nextSample s) u
  have hstep := (step_of_rxPart hrx).trans htx
  exact ⟨t, hstep, everyStepKeepsTheInvariant s t h hstep⟩

/-- From a state of the invariant every run completes in a state of the invariant. -/
theorem RunInvariant.run_next {s : State} (h : RunInvariant s) (n : Nat) : ∃ t, run n s = .next t ∧ RunInvariant t := by
  induction n generalizing s with
  | zero => exact ⟨s, rfl, h⟩
  | succ n ih =>
    obtain ⟨t, hstep, ht⟩ := h.step_next
    obtain ⟨u, hrun, hu⟩ := ih ht
    exact ⟨u, (run_succ_of_step n hstep).trans hrun, hu⟩

theorem RunInvariant.with_inputs {s : State} (h : RunInvariant s) (inputs : List PortSample) :
    RunInvariant { s with inputs := inputs } :=
  ⟨h.code, h.lenHigh, h.payload, h.filled, h.canonical, h.frame, h.outputs⟩

/-- Settles O56: the invariant does not mention the samples to come, and it is kept. -/
theorem noInputStopsTheBlock : Obligations.NoInputStopsTheBlock := by
  intro s inputs n h
  obtain ⟨t, hrun, -⟩ := (h.with_inputs inputs).run_next n
  exact ⟨t, hrun⟩

end Sys2Proof.Machine
end

section
/-! Bytes presented one a step: noise (60_exceptions R346), the end of every attempt (40_framer R158), and the frames whose
bytes run their instruction (40_framer R130, R147; 45_encoder R313). -/

namespace Sys2Proof.Machine

open Sys2Proof.Claims

/-! ### The RX steps on a sequence of bytes -/

/-- The RX step on each byte in turn, stopping at the first stop. -/
def rxRun : List Byte → State → StepResult
  | [], s => .next s
  | b :: bs, s =>
    match rxStep b s with
    | .next t => rxRun bs t
    | .fault r => .fault r
    | .refused r => .refused r

theorem rxRun_cons_of_step {b : Byte} {s t : State} (bs : List Byte) (h : rxStep b s = .next t) :
    rxRun (b :: bs) s = rxRun bs t := by
  simp only [rxRun, h]

theorem rxRun_cons_next {b : Byte} {bs : List Byte} {s t : State} (h : rxRun (b :: bs) s = .next t) :
    ∃ u, rxStep b s = .next u ∧ rxRun bs u = .next t := by
  unfold rxRun at h
  split at h
  · next u hu => exact ⟨u, hu, h⟩
  · cases h
  · cases h

theorem rxRun_append_of_next {bs : List Byte} {s t : State} (cs : List Byte) (h : rxRun bs s = .next t) :
    rxRun (bs ++ cs) s = rxRun cs t := by
  induction bs generalizing s with
  | nil => exact congrArg (rxRun cs) (Host.Outcome.next.inj h)
  | cons b bs ih =>
    obtain ⟨u, hstep, hrun⟩ := rxRun_cons_next h
    exact (rxRun_cons_of_step (bs ++ cs) hstep).trans (ih hrun)

theorem rxRun_withOuter {bs : List Byte} {s t : State} (v : Bool) (f : List Byte) (xs : List PortSample)
    (h : rxRun bs s = .next t) : rxRun bs (withOuter v f xs s) = .next (withOuter v f xs t) := by
  induction bs generalizing s with
  | nil =>
    obtain rfl := Host.Outcome.next.inj h
    rfl
  | cons b bs ih =>
    obtain ⟨u, hstep, hrun⟩ := rxRun_cons_next h
    exact (rxRun_cons_of_step bs (by rw [rxStep_withOuter, hstep, mapNext_next])).trans (ih hrun)

/-! ### From RX steps to runs of the machine -/

/-- A step on a presented byte is the RX step, and leaves an empty TX port. -/
theorem step_asBytes {s t : State} {b : Byte} {bs : List Byte} {rest : List PortSample}
    (hin : s.inputs = asBytes (b :: bs) ++ rest) (h : rxStep b s = .next t) :
    step s = .next (withOuter false [] (asBytes bs ++ rest) t) := by
  have hrx : rxStep b { s with inputs := asBytes bs ++ rest } =
      .next (withOuter s.txValid s.txFrame (asBytes bs ++ rest) t) := by
    rw [← mapNext_next, ← h, ← rxStep_withOuter]
    rfl
  exact byteStepIsTheRxStep s _ _ _ hin rfl rfl rfl hrx

/-- A run on presented bytes is the RX steps on them, and leaves an empty TX port. -/
theorem run_asBytes {s t : State} {bs : List Byte} {rest : List PortSample} (hin : s.inputs = asBytes bs ++ rest)
    (hne : bs ≠ []) (h : rxRun bs s = .next t) : run bs.length s = .next (withOuter false [] rest t) := by
  induction bs generalizing s t with
  | nil => exact absurd rfl hne
  | cons b bs ih =>
    obtain ⟨u, hstep, hrun⟩ := rxRun_cons_next h
    refine (run_succ_of_step bs.length (step_asBytes hin hstep)).trans ?_
    cases bs with
    | nil =>
      obtain rfl := Host.Outcome.next.inj hrun
      rfl
    | cons c bs =>
      have hrest := rxRun_withOuter false [] (asBytes (c :: bs) ++ rest) hrun
      exact (ih rfl (List.cons_ne_nil c bs) hrest).trans rfl

/-! ### Noise -/

theorem sameRegisters_quiet (s : State) : SameRegisters s (quiet s) := ⟨rfl, rfl, rfl, rfl, rfl, rfl, fun _ => rfl, rfl⟩

theorem sameRegisters_withOuter (v : Bool) (f : List Byte) (xs : List PortSample) (s : State) :
    SameRegisters s (withOuter v f xs s) := ⟨rfl, rfl, rfl, rfl, rfl, rfl, fun _ => rfl, rfl⟩

theorem rxStep_noise {s : State} {b : Byte} (hst : s.st = .idle) (hb : b ≠ 0x53#8) : rxStep b s = .next (quiet s) :=
  otherBytesAreHuntedSilently.1 s b hst hb

theorem rxRun_noise {s : State} {noise : List Byte} (hst : s.st = .idle) (hnoise : ∀ b ∈ noise, b ≠ 0x53#8) :
    rxRun noise (quiet s) = .next (quiet s) := by
  induction noise with
  | nil => rfl
  | cons b noise ih =>
    obtain ⟨hb, hnoise⟩ := List.forall_mem_cons.1 hnoise
    exact (rxRun_cons_of_step noise (rxStep_noise (s := quiet s) hst hb)).trans (ih hnoise)

/-- Settles O12: the first byte of the noise makes the outputs quiet, and the others change nothing. -/
theorem noiseBetweenFramesIsSilent : Obligations.NoiseBetweenFramesIsSilent := by
  intro s noise rest hst hin hnoise
  cases noise with
  | nil => exact ⟨s, rfl, .refl s, hin, fun h => absurd rfl h⟩
  | cons b noise =>
    obtain ⟨hb, htail⟩ := List.forall_mem_cons.1 hnoise
    have hrun : rxRun (b :: noise) s = .next (quiet s) :=
      (rxRun_cons_of_step noise (rxStep_noise hst hb)).trans (rxRun_noise hst htail)
    exact ⟨_, run_asBytes hin (List.cons_ne_nil b noise) hrun,
      (sameRegisters_quiet s).trans (sameRegisters_withOuter _ _ _ _), rfl, fun _ => ⟨rfl, rfl⟩⟩

/-! ### The end of an attempt (40_framer R158) -/

/-- How many more bytes an attempt can take. -/
def bytesLeft (s : State) : Nat :=
  match s.st with
  | .sawH1 => 40
  | .afterH2 => 39
  | .readCtrl => 38
  | .readLenHi => 37
  | .readLenLo => 36
  | .readPayload => s.rem.toNat + 3
  | .readCrc => 3
  | .sawT1 => 2
  | .expectT2 => 1
  | .idle | .readCmd | .unused11 | .unused12 | .unused13 | .unused14 | .unused15 => 0

theorem bytesLeft_pos {s : State} (h : RegistersHold s) (hst : s.st ≠ .idle) : 0 < bytesLeft s := by
  have hcode := h.code
  cases hs : s.st <;> simp_all [bytesLeft, FramerState.reachable]

theorem bytesLeft_le {s : State} (h : RegistersHold s) : bytesLeft s ≤ 40 := by
  unfold bytesLeft
  split
  case h_6 hst =>
    obtain ⟨-, hsum, hlen⟩ := h.payload hst
    have hlen' : s.len.toNat ≤ 32 := hlen
    omega
  all_goals omega

/-- Every row but the hunt brings the end of the attempt nearer. -/
theorem bytesLeft_lt {b : Byte} {s t : State} (h : RegistersHold s) (hst : s.st ≠ .idle) (hrow : RxRow b s t) :
    bytesLeft t < bytesLeft s := by
  have ended (ht : t.st = .idle) : bytesLeft t < bytesLeft s := by
    simpa only [bytesLeft, ht] using bytesLeft_pos h hst
  cases hrow with
  | hunted hcode =>
    rcases hcode with hidle | hcode
    · exact absurd hidle hst
    · exact absurd h.code (by simp [hcode])
  | desynced _ ht | tooLong _ ht | completed _ _ ht => exact ended (by rw [ht]; rfl)
  | header2 hs ht | ctrl hs ht | cmd hs ht | lenHi hs _ ht | emptyPayload hs ht | crc hs ht | tail1 hs ht =>
    simp [bytesLeft, hs, ht]
  | payloadLen hs _ hle ht =>
    have hrem : (BitVec.ofNat 16 (s.len.toNat + b.toNat)).toNat = s.len.toNat + b.toNat := toNat_ofNat_of_lt (by omega)
    simp only [bytesLeft, hs, ht, hrem]
    omega
  | payloadByte hs _ ht =>
    obtain ⟨hrem, -, -⟩ := h.payload hs
    have hdown : (s.rem - 1#16).toNat = s.rem.toNat - 1 := by bv_omega
    subst ht
    by_cases hlast : s.rem - 1#16 = 0#16
    · simp only [bytesLeft, hs, hlast, if_true]
      omega
    · simp only [bytesLeft, hs, hlast, if_false, hdown]
      omega

/-- Within an attempt, enough bytes lead back to IDLE, whatever they are. -/
theorem rxRun_reaches_idle {s : State} {bytes : List Byte} (h : RegistersHold s) (hst : s.st ≠ .idle)
    (hlen : bytesLeft s ≤ bytes.length) :
    ∃ first more t, bytes = first ++ more ∧ first ≠ [] ∧ rxRun first s = .next t ∧ t.st = .idle := by
  induction bytes generalizing s with
  | nil => exact absurd (bytesLeft_pos h hst) (Nat.not_lt.2 hlen)
  | cons b bytes ih =>
    obtain ⟨t, hstep⟩ := h.rxStep_next b
    have hrow := rxStep_row hstep
    by_cases ht : t.st = .idle
    · exact ⟨[b], bytes, t, rfl, List.cons_ne_nil b [], rxRun_cons_of_step [] hstep, ht⟩
    · have hless := bytesLeft_lt h hst hrow
      rw [List.length_cons] at hlen
      obtain ⟨first, more, u, rfl, -, hrun, hu⟩ := ih (h.rxRow hrow) ht (by omega)
      exact ⟨b :: first, more, u, rfl, List.cons_ne_nil b first, (rxRun_cons_of_step first hstep).trans hrun, hu⟩

/-- Settles O57: an attempt has at most 40 bytes left, and every byte uses one of them up. -/
theorem attemptsEndWithin41Bytes : Obligations.AttemptsEndWithin41Bytes := by
  intro s bytes rest h hst hlen hin
  have hregisters := h.registers
  obtain ⟨first, more, t, rfl, hne, hrun, ht⟩ :=
    rxRun_reaches_idle hregisters hst ((bytesLeft_le hregisters).trans_eq hlen.symm)
  have hin' : s.inputs = asBytes first ++ (asBytes more ++ rest) := by simpa [asBytes] using hin
  rw [List.length_append] at hlen
  exact ⟨first.length, _, List.length_pos_iff.2 hne, by omega, run_asBytes hin' hne hrun, ht⟩

/-! ### The bytes of a frame -/

/-- The registers while a frame with this key and payload is taken and `got` is the part of the payload taken so far. -/
structure Assembling (ctrl cmd : Byte) (payload got : List Byte) (s : State) : Prop where
  st : s.st = if got.length = payload.length then .readCrc else .readPayload
  ctrl : s.ctrl = ctrl
  cmd : s.cmd = cmd
  len : s.len.toNat = payload.length
  left : got.length ≠ payload.length → s.rem.toNat + got.length = payload.length
  cnt : s.cnt.toNat = got.length
  buf : (List.range got.length).map (Memory.read s.buf) = got
  canonical : Memory.wf s.buf = true

/-- From IDLE the headers, the key and a length-high byte of 0 are accepted. -/
theorem rxRun_key {s : State} (ctrl cmd : Byte) (hst : s.st = .idle) :
    rxRun [header1, header2, ctrl, cmd, 0x00#8] s =
      .next { quiet s with ctrl := ctrl, cmd := cmd, len := 0#16, st := .readLenLo } :=
  (rxRun_cons_of_step _ (idleAcceptsHeader1 s hst).1).trans <|
  (rxRun_cons_of_step _ ((headerAndKeyAreAccepted _ 0x00#8).1 rfl)).trans <|
  (rxRun_cons_of_step _ ((headerAndKeyAreAccepted _ ctrl).2.1 rfl)).trans <|
  (rxRun_cons_of_step _ ((headerAndKeyAreAccepted _ cmd).2.2 rfl)).trans <|
  (rxRun_cons_of_step _ (rxStep_readLenHi _ rfl)).trans (congrArg _ (acceptLenHi_of_le _ (Nat.zero_le _)))

/-- The length-low byte starts the payload, or skips an empty one. -/
theorem assembling_of_length {s : State} {payload : List Byte} (hst : s.st = .readLenLo) (hzero : s.len = 0#16)
    (hwf : Memory.wf s.buf = true) (hfits : payload.length ≤ 32) :
    ∃ t, rxStep (BitVec.ofNat 8 payload.length) s = .next t ∧ Assembling s.ctrl s.cmd payload [] t := by
  have hbyte : (BitVec.ofNat 8 payload.length).toNat = payload.length := toNat_ofNat_of_lt (by omega)
  have hlen : s.len.toNat + (BitVec.ofNat 8 payload.length).toNat = payload.length := by rw [hzero, hbyte]; exact Nat.zero_add _
  by_cases hempty : payload.length = 0
  · refine ⟨_, emptyPayloadSkipsToTheChecksum s _ hst (hlen.trans hempty), ?_⟩
    exact ⟨by simp [hempty], rfl, rfl, hempty.symm, fun hne => absurd hempty.symm hne, rfl, rfl, hwf⟩
  · obtain ⟨t, hstep, htlen, htrem, ht⟩ := lengthIsAccepted s _ hst (by rw [hlen]; omega) (by rw [hlen]; exact hfits)
    refine ⟨t, hstep, ?_⟩
    rw [hlen] at htlen htrem
    rw [ht]
    exact ⟨by simpa using Ne.symm hempty, rfl, rfl, htlen, fun _ => htrem, rfl, rfl, hwf⟩

/-- One payload byte is stored after those taken before it. -/
theorem Assembling.rxStep_payload {ctrl cmd b : Byte} {got more : List Byte} {s : State}
    (h : Assembling ctrl cmd (got ++ b :: more) got s) (hfits : (got ++ b :: more).length ≤ 32) :
    ∃ t, rxStep b s = .next t ∧ Assembling ctrl cmd (got ++ b :: more) (got ++ [b]) t := by
  have htotal : (got ++ b :: more).length = got.length + 1 + more.length := by simp; omega
  have hst : s.st = .readPayload := h.st.trans (if_neg (by omega))
  have hrem : s.rem.toNat = 1 + more.length := by have := h.left (by omega); omega
  have hcnt := h.cnt
  have hlt : s.cnt.toNat < bufferSize := show s.cnt.toNat < 32 by omega
  have hread := Memory.read_write (a := s.cnt.toNat) (b := b) h.canonical
  refine ⟨_, (rxStep_readPayload b hst).trans (acceptPayload_of_lt (s := quiet s) b hlt), ?_, h.ctrl, h.cmd, h.len, ?_, ?_, ?_,
    Memory.wf_write h.canonical hlt⟩
  · have hlast : s.rem - 1#16 = 0#16 ↔ (got ++ [b]).length = (got ++ b :: more).length := by
      rw [htotal, List.length_append, List.length_singleton]
      bv_omega
    simp only [quiet_rem, hlast]
  · intro _
    change (s.rem - 1#16).toNat + (got ++ [b]).length = _
    rw [htotal, List.length_append, List.length_singleton]
    bv_omega
  · change (s.cnt + 1#6).toNat = (got ++ [b]).length
    rw [List.length_append, List.length_singleton]
    bv_omega
  · change (List.range (got ++ [b]).length).map (Memory.read (Memory.write s.buf s.cnt.toNat b)) = _
    have hold : (List.range got.length).map (Memory.read (Memory.write s.buf s.cnt.toNat b)) = got := by
      conv_rhs => rw [← h.buf]
      exact List.map_congr_left fun k hk => (hread k).trans (if_neg (by have := List.mem_range.1 hk; omega))
    rw [List.length_append, List.length_singleton, List.range_succ, List.map_append, hold, List.map_singleton, ← hcnt, hread,
      if_pos rfl]

/-- The payload bytes are stored one after the other. -/
theorem Assembling.rxRun_payload {ctrl cmd : Byte} {got more : List Byte} {s : State} (h : Assembling ctrl cmd (got ++ more) got s)
    (hfits : (got ++ more).length ≤ 32) :
    ∃ t, rxRun more s = .next t ∧ Assembling ctrl cmd (got ++ more) (got ++ more) t := by
  induction more generalizing got s with
  | nil => exact ⟨s, rfl, by simpa using h⟩
  | cons b more ih =>
    obtain ⟨t, hstep, ht⟩ := h.rxStep_payload hfits
    rw [List.append_cons] at ht hfits ⊢
    obtain ⟨u, hrun, hu⟩ := ih ht hfits
    exact ⟨u, (rxRun_cons_of_step more hstep).trans hrun, hu⟩

/-- The registers with the checksum byte of a frame hold the encoding of the frame. -/
theorem Assembling.heldFrame_eq {ctrl cmd : Byte} {payload : List Byte} {s : State}
    (h : Assembling ctrl cmd payload payload s) :
    heldFrame { s with crc := sum8 (coveredBytes ctrl cmd payload) } = encodeFrame ctrl cmd payload := by
  simp only [heldFrame, h.ctrl, h.cmd, h.len, h.buf, encodeFrame_eq]
  rfl

/-- The last byte of a held encoding runs the instruction of its key. -/
theorem rxStep_tail2_of_held {ctrl cmd : Byte} {payload : List Byte} {s : State} {r : Report} (hst : s.st = .expectT2)
    (hheld : heldFrame s = encodeFrame ctrl cmd payload) (hfits : payload.length ≤ 32)
    (hr : ∀ x, exec (decodeKey ctrl cmd payload) x = .next (finishFrame r x)) :
    rxStep 0x43#8 s = .next (finishFrame r (quiet s)) := by
  obtain ⟨rfl, rfl, rfl⟩ := heldFrame_eq_encodeFrame hheld
  rw [payloadOf_length] at hfits
  rw [rxStep_tail2 hst hfits, if_pos (by rw [hheld, validFrame_encodeFrame]), hr]

/-- The checksum and the tail complete the frame, and its key's instruction runs. -/
theorem Assembling.rxRun_tail {ctrl cmd : Byte} {payload : List Byte} {s : State} {r : Report}
    (h : Assembling ctrl cmd payload payload s) (hfits : payload.length ≤ 32)
    (hr : ∀ x, exec (decodeKey ctrl cmd payload) x = .next (finishFrame r x)) :
    ∃ x, rxRun [sum8 (coveredBytes ctrl cmd payload), tail1, tail2] s = .next (finishFrame r x) :=
  ⟨_, (rxRun_cons_of_step _ ((checksumByteAndTail1AreAccepted s _).1 (h.st.trans (if_pos rfl)))).trans <|
    (rxRun_cons_of_step _ ((checksumByteAndTail1AreAccepted _ 0x00#8).2 rfl)).trans <|
    rxRun_cons_of_step [] (rxStep_tail2_of_held rfl h.heldFrame_eq hfits hr)⟩

/-- From IDLE the bytes of a frame finish with the report of the frame's instruction. -/
theorem rxRun_encodeFrame {s : State} {ctrl cmd : Byte} {payload : List Byte} {r : Report} (hst : s.st = .idle)
    (hwf : Memory.wf s.buf = true) (hfits : payload.length ≤ 32)
    (hr : ∀ x, exec (decodeKey ctrl cmd payload) x = .next (finishFrame r x)) :
    ∃ x, rxRun (encodeFrame ctrl cmd payload) s = .next (finishFrame r x) := by
  obtain ⟨t, hlength, ht⟩ := assembling_of_length
    (s := { quiet s with ctrl := ctrl, cmd := cmd, len := 0#16, st := .readLenLo }) rfl rfl hwf hfits
  obtain ⟨u, hpayload, hu⟩ := Assembling.rxRun_payload (got := []) ht hfits
  obtain ⟨x, htail⟩ := hu.rxRun_tail hfits hr
  have hbytes : encodeFrame ctrl cmd payload = [header1, header2, ctrl, cmd, 0x00#8] ++
      BitVec.ofNat 8 payload.length :: (payload ++ [sum8 (coveredBytes ctrl cmd payload), tail1, tail2]) := by
    have hlenHi : payload.length / 256 = 0 := by omega
    simp [encodeFrame_eq, coveredBytes, hlenHi]
  refine ⟨x, ?_⟩
  rw [hbytes, rxRun_append_of_next _ (rxRun_key ctrl cmd hst), rxRun_cons_of_step _ hlength,
    rxRun_append_of_next _ hpayload]
  exact htail

/-- A run on the bytes of a frame leaves the frame's report, every register cleared, and an empty TX port. -/
theorem run_encodeFrame {s : State} {ctrl cmd : Byte} {payload : List Byte} {r : Report} {rest : List PortSample}
    (hst : s.st = .idle) (hwf : Memory.wf s.buf = true) (hfits : payload.length ≤ 32)
    (hr : ∀ x, exec (decodeKey ctrl cmd payload) x = .next (finishFrame r x))
    (hin : s.inputs = asBytes (encodeFrame ctrl cmd payload) ++ rest) :
    run (encodeFrame ctrl cmd payload).length s = .next (withOuter false [] rest (finishFrame r s)) := by
  obtain ⟨x, hrun⟩ := rxRun_encodeFrame hst hwf hfits hr
  exact (run_asBytes hin (List.length_pos_iff.1 (by simp)) hrun).trans rfl

/-- Settles O58: the frame has the key and the payload of its instruction, and the instruction finishes with a report. -/
theorem frameBytesRunTheirInstruction : Obligations.FrameBytesRunTheirInstruction := by
  intro i s frame rest hin hwf hencode hst hbuf hinputs
  cases hparts : i.parts with
  | request kind arg => simp [Instr.isInbound, hparts] at hin
  | frame ctrl cmd payload =>
    obtain ⟨rfl, hfits⟩ := wellFormed_frame hwf hparts
    obtain rfl : encodeFrame ctrl cmd payload = frame := by simpa only [encode, hparts, Encoding.frame.injEq] using hencode
    obtain ⟨r, hr⟩ := exec_inbound _ hin
    exact ⟨_, hr s, run_encodeFrame hst hbuf hfits hr hinputs⟩

/-! ### Loopback (45_encoder R313) -/

/-- The template of an outbound frame is the encoding of its key with a payload of one byte. -/
theorem template_eq_encodeFrame (ctrl cmd v : Byte) : template ctrl cmd v = encodeFrame ctrl cmd [v] := by
  simp [← outboundFrame_eq_template, outboundFrame, generate, encodeFrame_eq, coveredBytes]

/-- A template fed back from IDLE leaves the report of its key's instruction, every register cleared. -/
theorem run_template {u : State} {ctrl cmd v : Byte} {r : Report} {rest : List PortSample} (hst : u.st = .idle)
    (hwf : Memory.wf u.buf = true) (hin : u.inputs = asBytes (template ctrl cmd v) ++ rest)
    (hr : ∀ x, exec (decodeKey ctrl cmd [v]) x = .next (finishFrame r x)) :
    ∃ w, run 10 u = .next w ∧ w.ev = r.events ∧ w.diag = r.diag ∧ Cleared w ∧ w.inputs = rest := by
  rw [template_eq_encodeFrame] at hin
  exact ⟨_, run_encodeFrame (payload := [v]) hst hwf (by simp) hr hin, rfl, rfl,
    cleared_withOuter _ _ _ _ (cleared_finishFrame r u), rfl⟩

/-- The request sends the template of a key and a payload byte, and this key's instruction reports these outputs. -/
def LoopsBack (i : Instr) (ev : List Event) (d : Diag) : Prop :=
  ∃ ctrl cmd v, (∀ s, exec i s = .next (sendFrame ctrl cmd v s)) ∧
    ∀ x, exec (decodeKey ctrl cmd [v]) x = .next (finishFrame ⟨ev, d⟩ x)

theorem textReport_singleton (mk : List Byte → Event) (v : Byte) :
    textReport Config.textBound mk [v] = ⟨[mk [v]], .none⟩ :=
  textReport_of_lt mk (by simp [Config.textBound])

/-- A query for a text loops back as the text of its payload byte. -/
theorem loopsBack_text {i : Instr} {cmd v : Byte} (mk : List Byte → Event)
    (hsend : ∀ s, exec i s = .next (sendFrame 0x02#8 cmd v s))
    (hexec : ∀ x, exec (decodeKey 0x02#8 cmd [v]) x = report (textReport Config.textBound mk [v]) x) :
    LoopsBack i [mk [v]] .none :=
  ⟨_, _, _, hsend, fun x => by rw [hexec, textReport_singleton]; rfl⟩

theorem loopsBack_setOutputSwitch (arg : Byte) :
    LoopsBack (.txSetOutputSwitch arg) [.outputSwitch (arg.getLsbD 0)] .none := by
  refine ⟨_, _, _, fun _ => rfl, fun x => ?_⟩
  cases arg.getLsbD 0 <;> rfl

/-- Settles O59: every request in the list sends a template, whose key's instruction gives the listed result. -/
theorem loopbackRoundTrip : Obligations.LoopbackRoundTrip := by
  intro u rest hst hwf
  refine ⟨fun arg i ev d s t hmem hexec hin => ?_, fun code hin => run_template hst hwf hin fun _ => rfl⟩
  have hloop : LoopsBack i ev d := by
    simp only [List.mem_cons, List.not_mem_nil, or_false, Prod.mk.injEq] at hmem
    rcases hmem with ⟨rfl, rfl, rfl⟩ | ⟨rfl, rfl, rfl⟩ | ⟨rfl, rfl, rfl⟩ | ⟨rfl, rfl, rfl⟩ | ⟨rfl, rfl, rfl⟩ |
      ⟨rfl, rfl, rfl⟩ | ⟨rfl, rfl, rfl⟩ | ⟨rfl, rfl, rfl⟩ | ⟨rfl, rfl, rfl⟩
    · exact ⟨_, _, _, fun _ => rfl, fun _ => rfl⟩
    · exact ⟨_, _, _, fun _ => rfl, fun _ => rfl⟩
    · exact loopsBack_text .productModel (fun _ => rfl) fun _ => rfl
    · exact loopsBack_text .productId (fun _ => rfl) fun _ => rfl
    · exact loopsBack_text .hardwareModel (fun _ => rfl) fun _ => rfl
    · exact loopsBack_text .firmwareVersion (fun _ => rfl) fun _ => rfl
    · exact ⟨_, _, _, fun _ => rfl, fun _ => rfl⟩
    · exact ⟨_, _, _, fun _ => rfl, fun _ => rfl⟩
    · exact loopsBack_setOutputSwitch arg
  obtain ⟨ctrl, cmd, v, hsend, hr⟩ := hloop
  obtain rfl := Host.Outcome.next.inj (hexec.symm.trans (hsend s))
  rw [sendFrame_txFrame, outboundFrame_eq_template] at hin
  exact run_template hst hwf hin hr

end Sys2Proof.Machine
end

section
/-! Two states of the invariant that agree on the registers marked for their Framer state (10_state R42) go through the same
steps with the same outputs: what is not marked is never observed. -/

namespace Sys2Proof.Machine

open Sys2Proof.Claims

/-! ### Agreement -/

/-- The marked registers agree, and so do the RX outputs. -/
structure RxAgree (s t : State) : Prop where
  live : SameLive s t
  ev : s.ev = t.ev
  diag : s.diag = t.diag

/-- The marked registers of a state that is quiet agree with those of another. -/
theorem RxAgree.quiet {s t : State} (h : SameLive s t) : RxAgree (quiet s) (quiet t) :=
  ⟨⟨h.st, h.inputs, h.ctrl, h.cmd, h.len, h.rem, h.cnt, h.buf, h.crc⟩, rfl, rfl⟩

theorem SameLive.withOuter {s t : State} (h : SameLive s t) (v : Bool) (f : List Byte) (xs : List PortSample) :
    SameLive (withOuter v f xs s) (withOuter v f xs t) :=
  ⟨h.st, rfl, h.ctrl, h.cmd, h.len, h.rem, h.cnt, h.buf, h.crc⟩

/-- Before the control word is marked, nothing is. -/
theorem unmarked_of_ctrl_unmarked {c : FramerState} (h : c.ctrlLive = false) :
    c.cmdLive = false ∧ c.lenLive = false ∧ c.remLive = false ∧ c.bufLive = false ∧ c.crcLive = false := by
  cases c with
  | idle | sawH1 | afterH2 | readCmd | unused11 | unused12 | unused13 | unused14 | unused15 =>
    exact ⟨rfl, rfl, rfl, rfl, rfl⟩
  | readCtrl | readLenHi | readLenLo | readPayload | readCrc | sawT1 | expectT2 => exact Bool.noConfusion h

/-- In a state that marks nothing, the inputs alone matter. -/
theorem SameLive.of_unmarked {s t : State} (hst : s.st = t.st) (hin : s.inputs = t.inputs) (h : s.st.ctrlLive = false) :
    SameLive s t := by
  obtain ⟨hcmd, hlen, hrem, hbuf, hcrc⟩ := unmarked_of_ctrl_unmarked h
  have unmarked {b : Bool} {q : Prop} (hb : b = false) (hb' : b = true) : q := by simp [hb] at hb'
  exact ⟨hst, hin, unmarked h, unmarked hcmd, unmarked hlen, unmarked hrem, unmarked hbuf, unmarked hbuf, unmarked hcrc⟩

/-- A cleared Framer holds nothing of what it held before. -/
theorem RxAgree.finishFrame {s t : State} (hin : s.inputs = t.inputs) (r : Report) :
    RxAgree (finishFrame r s) (finishFrame r t) :=
  ⟨.of_unmarked rfl hin rfl, rfl, rfl⟩

/-! ### One RX step from two states that agree -/

/-- Both outcomes of a test of the byte agree. -/
theorem RxAgree.ite {c : Prop} [Decidable c] {a b a' b' : State} (ha : RxAgree a a') (hb : RxAgree b b') :
    RxAgree (if c then a else b) (if c then a' else b') := by
  split
  · exact ha
  · exact hb

section
variable {s t : State} (h : RxAgree s t) (b : Byte)
include h

theorem RxAgree.abort (d : Diag) : RxAgree (abort d s) (abort d t) := .finishFrame h.live.inputs ⟨[], d⟩

theorem RxAgree.hunt : RxAgree (hunt b s) (hunt b t) :=
  .ite ⟨.of_unmarked rfl h.live.inputs rfl, h.ev, h.diag⟩ ⟨.of_unmarked rfl h.live.inputs rfl, h.ev, h.diag⟩

theorem RxAgree.acceptHeader2 : RxAgree (acceptHeader2 b s) (acceptHeader2 b t) :=
  .ite ⟨.of_unmarked rfl h.live.inputs rfl, h.ev, h.diag⟩ (h.abort _)

theorem RxAgree.acceptCtrl : RxAgree (acceptCtrl b s) (acceptCtrl b t) where
  live := ⟨rfl, h.live.inputs, fun _ => rfl, nofun, nofun, nofun, nofun, nofun, nofun⟩
  ev := h.ev
  diag := h.diag

theorem RxAgree.acceptCmd (hst : s.st = .readCtrl) : RxAgree (acceptCmd b s) (acceptCmd b t) where
  live := ⟨rfl, h.live.inputs, fun _ => h.live.ctrl (by rw [hst]; rfl), fun _ => rfl, nofun, nofun, nofun, nofun, nofun⟩
  ev := h.ev
  diag := h.diag

/-- After the command word the key is marked in both states. -/
theorem RxAgree.key (hst : s.st.cmdLive = true) : s.ctrl = t.ctrl ∧ s.cmd = t.cmd :=
  ⟨h.live.ctrl (by cases hs : s.st <;> simp_all [FramerState.cmdLive, FramerState.ctrlLive]), h.live.cmd hst⟩

theorem RxAgree.acceptLenHi (hst : s.st = .readLenHi) : RxAgree (acceptLenHi b s) (acceptLenHi b t) := by
  obtain ⟨hctrl, hcmd⟩ := h.key (by rw [hst]; rfl)
  exact .ite ⟨⟨rfl, h.live.inputs, fun _ => hctrl, fun _ => hcmd, fun _ => rfl, nofun, nofun, nofun, nofun⟩, h.ev, h.diag⟩
    (h.abort _)

theorem RxAgree.acceptLenLo (hst : s.st = .readLenLo) : RxAgree (acceptLenLo b s) (acceptLenLo b t) := by
  obtain ⟨hctrl, hcmd⟩ := h.key (by rw [hst]; rfl)
  have hlen : s.len = t.len := h.live.len (by rw [hst]; rfl)
  simp only [Machine.acceptLenLo, hlen]
  refine .ite (h.abort _) (.ite ⟨⟨rfl, h.live.inputs, fun _ => hctrl, fun _ => hcmd, fun _ => rfl, nofun, fun _ => rfl,
    fun _ k hk => absurd hk (Nat.not_lt_zero k), nofun⟩, h.ev, h.diag⟩ ?_)
  exact ⟨⟨rfl, h.live.inputs, fun _ => hctrl, fun _ => hcmd, fun _ => rfl, fun _ => rfl, fun _ => rfl,
    fun _ k hk => absurd hk (Nat.not_lt_zero k), nofun⟩, h.ev, h.diag⟩

/-- The byte stored is marked from now on, in both buffers. -/
theorem RxAgree.acceptPayload (hs : RegistersHold s) (ht : RegistersHold t) (hst : s.st = .readPayload) :
    ∃ u v, acceptPayload b s = .next u ∧ acceptPayload b t = .next v ∧ RxAgree u v := by
  obtain ⟨hctrl, hcmd⟩ := h.key (by rw [hst]; rfl)
  have hlen : s.len = t.len := h.live.len (by rw [hst]; rfl)
  have hrem : s.rem = t.rem := h.live.rem (by rw [hst]; rfl)
  have hcnt : s.cnt = t.cnt := h.live.cnt (by rw [hst]; rfl)
  have hlt : s.cnt.toNat < bufferSize := hs.cnt_lt hst
  have hbuf (k : Nat) (hk : k < (s.cnt + 1#6).toNat) :
      Memory.read (Memory.write s.buf s.cnt.toNat b) k = Memory.read (Memory.write t.buf s.cnt.toNat b) k := by
    rw [Memory.read_write hs.canonical, Memory.read_write ht.canonical]
    split
    · rfl
    · next hne =>
      refine h.live.buf (by rw [hst]; rfl) k ?_
      have hup : (s.cnt + 1#6).toNat ≤ s.cnt.toNat + 1 := by bv_omega
      omega
  refine ⟨_, _, acceptPayload_of_lt b hlt, acceptPayload_of_lt b (hcnt ▸ hlt), ?_⟩
  rw [← hcnt, ← hrem]
  refine ⟨⟨rfl, h.live.inputs, fun _ => hctrl, fun _ => hcmd, fun _ => hlen, fun _ => rfl, fun _ => rfl, fun _ => hbuf,
    fun hcrc => ?_⟩, h.ev, h.diag⟩
  revert hcrc
  change FramerState.crcLive (if _ then _ else _) = true → _
  split <;> nofun

theorem RxAgree.acceptCrc (hst : s.st = .readCrc) : RxAgree (acceptCrc b s) (acceptCrc b t) := by
  obtain ⟨hctrl, hcmd⟩ := h.key (by rw [hst]; rfl)
  have hbuf : s.st.bufLive = true := by rw [hst]; rfl
  exact ⟨⟨rfl, h.live.inputs, fun _ => hctrl, fun _ => hcmd, fun _ => h.live.len (by rw [hst]; rfl), nofun,
    fun _ => h.live.cnt hbuf, fun _ => h.live.buf hbuf, fun _ => rfl⟩, h.ev, h.diag⟩

theorem RxAgree.acceptTail1 (hst : s.st = .sawT1) : RxAgree (acceptTail1 b s) (acceptTail1 b t) := by
  obtain ⟨hctrl, hcmd⟩ := h.key (by rw [hst]; rfl)
  have hbuf : s.st.bufLive = true := by rw [hst]; rfl
  exact .ite ⟨⟨rfl, h.live.inputs, fun _ => hctrl, fun _ => hcmd, fun _ => h.live.len (by rw [hst]; rfl), nofun,
    fun _ => h.live.cnt hbuf, fun _ => h.live.buf hbuf, fun _ => h.live.crc (by rw [hst]; rfl)⟩, h.ev, h.diag⟩ (h.abort _)

end

/-- When the last byte is due, everything that the completion reads is marked: the whole payload was written. -/
theorem SameLive.held {s t : State} (h : SameLive s t) (hs : RegistersHold s) (hst : s.st = .expectT2) :
    s.ctrl = t.ctrl ∧ s.cmd = t.cmd ∧ payloadOf s = payloadOf t ∧ heldFrame s = heldFrame t := by
  have hctrl : s.ctrl = t.ctrl := h.ctrl (by rw [hst]; rfl)
  have hcmd : s.cmd = t.cmd := h.cmd (by rw [hst]; rfl)
  have hlen : s.len = t.len := h.len (by rw [hst]; rfl)
  have hcrc : s.crc = t.crc := h.crc (by rw [hst]; rfl)
  have hpayload : payloadOf s = payloadOf t := by
    simp only [payloadOf, ← hlen, ← (hs.filled (.inr (.inr hst))).1]
    exact List.map_congr_left fun k hk => h.buf (by rw [hst]; rfl) k (List.mem_range.1 hk)
  refine ⟨hctrl, hcmd, hpayload, ?_⟩
  change _ ++ payloadOf s ++ _ = _ ++ payloadOf t ++ _
  rw [hctrl, hcmd, hlen, hcrc, hpayload]

/-- The last byte gives the same outcome in both states. -/
theorem SameLive.rxStep_expectT2 {s t : State} (h : SameLive s t) (hs : RegistersHold s) (ht : RegistersHold t)
    (hst : s.st = .expectT2) (b : Byte) : ∃ u v, rxStep b s = .next u ∧ rxStep b t = .next v ∧ RxAgree u v := by
  have hst' : t.st = .expectT2 := h.st.symm.trans hst
  by_cases hb : b = 0x43#8
  · subst hb
    obtain ⟨hctrl, hcmd, hpayload, hheld⟩ := h.held hs hst
    have hstep := rxStep_tail2 hst (hs.filled (.inr (.inr hst))).2
    have hstep' := rxStep_tail2 hst' (ht.filled (.inr (.inr hst'))).2
    rw [hctrl, hcmd, hpayload, hheld] at hstep
    split at hstep
    · next hvalid =>
      obtain ⟨r, hr⟩ := exec_inbound _ (decodeKey_isInbound t.ctrl t.cmd (payloadOf t))
      rw [if_pos hvalid, hr] at hstep'
      exact ⟨_, _, hstep.trans (hr _), hstep', .finishFrame h.inputs r⟩
    · next hinvalid =>
      rw [if_neg hinvalid] at hstep'
      exact ⟨_, _, hstep, hstep', .finishFrame h.inputs _⟩
  · exact ⟨_, _, rxStep_of_desyncCause (.inr (.inr (.inr ⟨hst, hb⟩))),
      rxStep_of_desyncCause (.inr (.inr (.inr ⟨hst', hb⟩))), (RxAgree.quiet h).abort _⟩

/-- One RX step from two states of the invariant that agree. -/
theorem SameLive.rxStep {s t : State} (h : SameLive s t) (hs : RegistersHold s) (ht : RegistersHold t) (b : Byte) :
    ∃ u v, rxStep b s = .next u ∧ rxStep b t = .next v ∧ RxAgree u v := by
  have hq := RxAgree.quiet h
  cases hst : s.st with
  | idle => exact ⟨_, _, rxStep_idle b hst, rxStep_idle b (h.st ▸ hst), hq.hunt b⟩
  | sawH1 => exact ⟨_, _, rxStep_sawH1 b hst, rxStep_sawH1 b (h.st ▸ hst), hq.acceptHeader2 b⟩
  | afterH2 => exact ⟨_, _, rxStep_afterH2 b hst, rxStep_afterH2 b (h.st ▸ hst), hq.acceptCtrl b⟩
  | readCtrl => exact ⟨_, _, rxStep_readCtrl b hst, rxStep_readCtrl b (h.st ▸ hst), hq.acceptCmd b hst⟩
  | readLenHi => exact ⟨_, _, rxStep_readLenHi b hst, rxStep_readLenHi b (h.st ▸ hst), hq.acceptLenHi b hst⟩
  | readLenLo => exact ⟨_, _, rxStep_readLenLo b hst, rxStep_readLenLo b (h.st ▸ hst), hq.acceptLenLo b hst⟩
  | readPayload =>
    rw [rxStep_readPayload b hst, rxStep_readPayload b (h.st ▸ hst)]
    exact hq.acceptPayload b (registersHold_quiet hs) (registersHold_quiet ht) hst
  | readCrc => exact ⟨_, _, rxStep_readCrc b hst, rxStep_readCrc b (h.st ▸ hst), hq.acceptCrc b hst⟩
  | sawT1 => exact ⟨_, _, rxStep_sawT1 b hst, rxStep_sawT1 b (h.st ▸ hst), hq.acceptTail1 b hst⟩
  | expectT2 => exact h.rxStep_expectT2 hs ht hst b
  | readCmd | unused11 | unused12 | unused13 | unused14 | unused15 =>
    exact absurd hs.code (by rw [hst]; exact Bool.false_ne_true)

/-! ### One step of the block, and runs -/

theorem SameLive.rxPart {s t : State} (h : SameLive s t) (hs : RegistersHold s) (ht : RegistersHold t) (p : PortSample) :
    ∃ u v, rxPart p s = .next u ∧ rxPart p t = .next v ∧ RxAgree u v := by
  unfold Machine.rxPart
  split_ifs
  · exact ⟨_, _, rfl, rfl, .finishFrame h.inputs _⟩
  · exact h.rxStep hs ht p.rxByte
  · exact ⟨_, _, rfl, rfl, .quiet h⟩

/-- One step from two states of the invariant that agree: the same outputs, and again states that agree. -/
theorem SameLive.step {s t s' : State} (h : SameLive s t) (hs : RegistersHold s) (ht : RegistersHold t)
    (hstep : step s = .next s') : ∃ t', step t = .next t' ∧ SameOutputs s' t' ∧ SameLive s' t' := by
  have hsample : nextSample s = nextSample t := by simp only [nextSample, h.inputs]
  have hdrop : SameLive (dropSample s) (dropSample t) := by
    refine ⟨h.st, ?_, h.ctrl, h.cmd, h.len, h.rem, h.cnt, h.buf, h.crc⟩
    rw [dropSample_inputs, dropSample_inputs, h.inputs]
  obtain ⟨u, v, hrx, hrx', hagree⟩ :=
    hdrop.rxPart (dropSample_registersHold hs) (dropSample_registersHold ht) (nextSample s)
  have htx : txPart (nextSample s) u = .next s' := (step_of_rxPart hrx).symm.trans hstep
  obtain ⟨t', htx'⟩ := txPart_next (nextSample s) v
  have hstep' : Machine.step t = .next t' := by
    rw [step_of_rxPart (hsample ▸ hrx'), ← hsample, htx']
  obtain ⟨hvalid, hframe⟩ := txPart_ports htx htx'
  have hs' := txPart_eq_withOuter htx
  have ht' := txPart_eq_withOuter htx'
  refine ⟨t', hstep', ⟨?_, ?_, hvalid, hframe⟩, ?_⟩
  · rw [hs', ht']; exact hagree.ev
  · rw [hs', ht']; exact hagree.diag
  · rw [hs', ht', ← hvalid, ← hframe, ← hagree.live.inputs]
    exact hagree.live.withOuter _ _ _

/-- Settles O60: each step keeps the agreement and the invariant, and gives the same outputs. -/
theorem unmarkedRegistersAreUnobservable : Obligations.UnmarkedRegistersAreUnobservable := by
  intro n
  induction n with
  | zero =>
    intro s t s' hs ht h hrun
    obtain ⟨u, hstep, -⟩ := hs.step_next
    obtain rfl : u = s' := Host.Outcome.next.inj ((run_succ_of_step 0 hstep).symm.trans hrun)
    obtain ⟨t', hstep', hout, hlive⟩ := h.step hs.registers ht.registers hstep
    exact ⟨t', run_succ_of_step 0 hstep', hout, hlive⟩
  | succ n ih =>
    intro s t s' hs ht h hrun
    obtain ⟨u, hstep, hu⟩ := hs.step_next
    obtain ⟨v, hstep', -, hlive⟩ := h.step hs.registers ht.registers hstep
    obtain ⟨t', hrun', hresult⟩ := ih u v s' hu (everyStepKeepsTheInvariant t v ht hstep') hlive
      ((run_succ_of_step (n + 1) hstep).symm.trans hrun)
    exact ⟨t', (run_succ_of_step (n + 1) hstep').trans hrun', hresult⟩

end Sys2Proof.Machine
end

section
/-! One changed byte and the checksum (41_checksum_validator R175). -/

namespace Sys2Proof.Machine

/-- Replacing a byte moves the exact sum by the difference of the two. -/
theorem byteSum_set {bs : List Byte} {k : Nat} (hk : k < bs.length) (b : Byte) :
    byteSum (bs.set k b) + bs[k].toNat = byteSum bs + b.toNat := by
  induction bs generalizing k with
  | nil => exact absurd hk (Nat.not_lt_zero k)
  | cons c bs ih =>
    cases k with
    | zero =>
      simp only [List.set_cons_zero, byteSum_cons, List.getElem_cons_zero]
      omega
    | succ k =>
      have htail := ih (Nat.lt_of_succ_lt_succ hk)
      simp only [List.set_cons_succ, byteSum_cons, List.getElem_cons_succ]
      omega

/-- Two bytes that differ differ by less than 256, so the truncated sum moves too. -/
theorem sum8_set_ne {bs : List Byte} {k : Nat} (hk : k < bs.length) {b : Byte} (hb : bs[k] ≠ b) :
    sum8 (bs.set k b) ≠ sum8 bs := by
  intro heq
  have hmod : byteSum (bs.set k b) % 256 = byteSum bs % 256 := by
    simpa only [sum8, BitVec.toNat_ofNat] using congrArg BitVec.toNat heq
  have hsum := byteSum_set hk b
  exact hb (BitVec.eq_of_toNat_eq (by omega))

/-- Settles O48: the changed byte is among those summed, and the checksum byte is not changed. -/
theorem oneChangedByteIsDetected : Obligations.OneChangedByteIsDetected := by
  intro frame k b hk hb
  have hcovered : k < (frame.take (frame.length - 3)).length := by
    rw [List.length_take]
    omega
  have hne : (frame.take (frame.length - 3))[k] ≠ b := by
    rw [List.getElem_take]
    exact fun heq => hb (by rw [← heq, List.getElem?_eq_getElem])
  have hchecksum : checksum (frame.set k b) ≠ checksum frame := by
    rw [checksum, checksum, List.length_set, List.take_set]
    exact sum8_set_ne hcovered hne
  refine ⟨hchecksum, fun hvalid => ?_⟩
  have hbyte : frame[frame.length - 3]? = some (checksum frame) := beq_iff_eq.1 hvalid
  rw [validFrame, List.length_set, List.getElem?_set_ne (by omega), hbyte, beq_eq_false_iff_ne]
  exact fun heq => hchecksum (Option.some.inj heq).symm

end Sys2Proof.Machine
end

section
/-! The codes on the output ports: the event bus (30_encoding R104), the diagnostics (R105) and the Framer states
(10_state R31). -/

namespace Sys2Proof.Machine

/-! ### The event bus -/

/-- A text of at most 32 bytes is followed by zeros on the bus. -/
theorem textRecord_text {text : List Byte} (tag : BitVec 5) (h : text.length ≤ 32) :
    (textRecord tag text).text = text ++ List.replicate (32 - text.length) 0x00#8 := by
  rw [textRecord, List.take_of_length_le h]

theorem textRecord_textLen {text : List Byte} (tag : BitVec 5) (h : text.length ≤ 32) :
    (textRecord tag text).textLen.toNat = text.length := toNat_ofNat_of_lt (by omega)

theorem textRecord_text_getElem? {text : List Byte} (tag : BitVec 5) (h : text.length ≤ 32) {k : Nat} (hk : k < 32) :
    (textRecord tag text).text[k]? = some (text.getD k 0x00#8) := by
  rw [textRecord_text tag h, List.getD_eq_getElem?_getD]
  rcases Nat.lt_or_ge k text.length with hin | hout
  · rw [List.getElem?_append_left hin, List.getElem?_eq_getElem hin]
    rfl
  · rw [List.getElem?_append_right hout, List.getElem?_eq_none hout, List.getElem?_replicate, if_pos (by omega)]
    rfl

/-- The four texts are records of their tag with no other field. -/
theorem record_of_text {mk : List Byte → Event} {tag : BitVec 5} (text : List Byte)
    (h : (mk, tag) ∈ [(Event.productModel, 1#5), (Event.productId, 2#5), (Event.hardwareModel, 3#5),
      (Event.firmwareVersion, 4#5)]) : (mk text).record = textRecord tag text := by
  simp only [List.mem_cons, List.not_mem_nil, or_false, Prod.mk.injEq] at h
  rcases h with ⟨rfl, rfl⟩ | ⟨rfl, rfl⟩ | ⟨rfl, rfl⟩ | ⟨rfl, rfl⟩ <;> rfl

/-- Every count of half units (a byte, or a speed in -10..245) fits the 16-bit field in two's complement. -/
theorem half_bmod {half : Int} (hlow : -10 ≤ half) (hhigh : half ≤ 255) : half.bmod 65536 = half :=
  Int.bmod_eq_of_le (by omega) (by omega)

/-- Settles O53: a text is padded to 32 bytes, a signed field keeps its value, and every other field is a constant. -/
theorem eventRecords : Obligations.EventRecords := by
  constructor
  · intro mk tag text hmk hfits
    rw [record_of_text text hmk]
    refine ⟨rfl, rfl, rfl, rfl, textRecord_textLen tag hfits, ?_, fun k hk => textRecord_text_getElem? tag hfits hk⟩
    rw [textRecord_text tag hfits, List.length_append, List.length_replicate]
    omega
  · intro e tag a b half h
    rcases h with ⟨rfl, rfl, rfl, rfl, rfl⟩ | ⟨rfl, rfl, rfl, rfl, rfl⟩ | ⟨rfl, rfl, rfl, rfl, rfl⟩ | ⟨rfl, rfl, rfl, rfl⟩ |
      ⟨⟨h, rfl, rfl⟩, rfl, rfl, rfl⟩ | ⟨rfl, rfl, rfl, rfl⟩ | ⟨⟨h, rfl, rfl⟩, rfl, rfl, rfl⟩ |
      ⟨rfl, hlow, hhigh, rfl, rfl, rfl⟩ | ⟨rfl, rfl, rfl, rfl, rfl⟩ | ⟨rfl, rfl, rfl, rfl, rfl⟩ |
      ⟨rfl, rfl, rfl, rfl, rfl⟩ | ⟨rfl, rfl, rfl, rfl⟩ | ⟨rfl, rfl, rfl, rfl⟩ | ⟨rfl, rfl, rfl, rfl, rfl⟩ |
      ⟨rfl, rfl, rfl, rfl, rfl⟩ | ⟨rfl, rfl, rfl, rfl, rfl⟩ | ⟨rfl, rfl, rfl, rfl, rfl⟩ | ⟨rfl, rfl, rfl, rfl, rfl⟩ |
      ⟨rfl, rfl, rfl⟩
    all_goals
      refine ⟨rfl, rfl, rfl, ?_, rfl, rfl⟩
      simp [Event.record, blankRecord]
    all_goals exact half_bmod (by omega) (by omega)

/-! ### The diagnostics and the Framer states -/

theorem diagOfCode_code (d : Diag) : diagOfCode d.code = d := by cases d <;> rfl

theorem framerStateOfCode_code (st : FramerState) : framerStateOfCode st.code = st := by cases st <;> rfl

/-- Settles O54: the codes are listed, and each coding undoes the other on its few values. -/
theorem statusCodes : Obligations.StatusCodes :=
  ⟨rfl, rfl, by decide, diagOfCode_code, by decide, framerStateOfCode_code⟩

end Sys2Proof.Machine
end
